-- ==== Sys2Proof/Word.lean ====
section
/-! DEFINITION. The word types (00_scope.md rules R7, R8): every value of the hardware is an unsigned bit pattern. -/

namespace Sys2Proof

/-- A general register, a memory cell, the operand NN. -/
abbrev Byte := BitVec 8

/-- An instruction word, `I`, `PC`, a stack slot. -/
abbrev Word := BitVec 16

/-- The fields X, Y and N, and a key number. -/
abbrev Nibble := BitVec 4

/-- The field NNN. -/
abbrev Addr12 := BitVec 12

end Sys2Proof
end

