-- ==== Sys2Proof/Config.lean ====
section
/-! DEFINITION. What an implementation fixes (00_scope.md rule R5) and the free values (93_implementation_defined.md
part 1): constants with no body, so that nothing in Lean can evaluate them and a claim is true whatever they are.
The values of the parameters that the spec decided, and asks to carry as parameters, stand in Machine/Params.lean. -/

namespace Sys2Proof

/-- `MEM_SIZE` (rule R5). -/
abbrev Config.memSize : Nat := 4096

/-- `PROG_BASE`: first byte of the program image, reset value of `PC` (rule R5). -/
abbrev Config.progBase : Nat := 0x200

/-- `ROM_MAX`: the largest image that fits (rule R5, 70_reset_and_hazards.md rule R212). -/
abbrev Config.romMax : Nat := 3584

/-- What `8XY5` and `8XY7` report in `VF` (parameter `BORROW_SENSE` of rule R5). -/
inductive Config.BorrowSense where
  /-- 1 iff a borrow occurred. -/
  | borrow
  /-- 1 iff no borrow occurred, the conventional flag. -/
  | notBorrow
deriving DecidableEq, Repr

/-- FREE VALUE. The byte the `n`-th random draw delivers (60_exceptions.md rule R199, decision D19; log entry 14). -/
opaque Config.randomByte (n : Nat) : Byte

/-- FREE VALUE. The answer of the `n`-th quit poll: does the host ask to stop (60_exceptions.md rule R201; log entry 15)? -/
opaque Config.hostQuits (n : Nat) : Bool

/-- FREE VALUE. The keys held from the `n`-th poll to the next, bit `k` for hex key `k` (60_exceptions.md rule R198; log
entry 12). -/
opaque Config.hostKeys (n : Nat) : BitVec 16

/-- FREE VALUE. How many 60 Hz ticks fall between the `n`-th poll and the CPU step after it, zero included
(60_exceptions.md rules R192, R194; log entry 11). -/
opaque Config.ticksDelivered (n : Nat) : Nat

end Sys2Proof
end

