-- ==== Sys2Proof/Machine/Params.lean ====
section
/-! DEFINITION. The parameter values the spec decided where its source is silent or ambiguous, and asks a model to carry as
parameters (92_eei_decisions.md, last paragraph), and the reset byte of every memory address. -/

namespace Sys2Proof.Machine

/-- `FETCH_LIMIT` (40_fetch_decode_execute.md rule R91, decision D1, conflict C2; log entry 3). UNVERIFIED. -/
def Params.fetchLimit : Nat := 0xFFE

/-- `BORROW_SENSE` (42_alu.md rule R127, decision D5; log entry 4). UNVERIFIED. -/
def Params.borrowSense : Config.BorrowSense := .borrow

/-- `DRAW_WRITES_VF` (44_display.md rule R152, decision D4, conflict C5; log entry 5). UNVERIFIED. -/
def Params.drawWritesVF : Bool := false

/-- `RESET_FILL` (10_state.md rule R40, decision D13; log entry 1). DESIGN CHOICE. -/
def Params.resetFill : Byte := 0

/-- Glyphs 0 to 7 of `FONT` (10_state.md rule R31, decision D9; log entry 2). PRESUMED: the conventional font. -/
def Params.fontLow : List Byte :=
  [ 0xF0, 0x90, 0x90, 0x90, 0xF0
  , 0x20, 0x60, 0x20, 0x20, 0x70
  , 0xF0, 0x10, 0xF0, 0x80, 0xF0
  , 0xF0, 0x10, 0xF0, 0x10, 0xF0
  , 0x90, 0x90, 0xF0, 0x10, 0x10
  , 0xF0, 0x80, 0xF0, 0x10, 0xF0
  , 0xF0, 0x80, 0xF0, 0x90, 0xF0
  , 0xF0, 0x10, 0x20, 0x40, 0x40 ]

/-- Glyphs 8 to F of `FONT`. -/
def Params.fontHigh : List Byte :=
  [ 0xF0, 0x90, 0xF0, 0x90, 0xF0
  , 0xF0, 0x90, 0xF0, 0x10, 0xF0
  , 0xF0, 0x90, 0xF0, 0x90, 0x90
  , 0xE0, 0x90, 0xE0, 0x90, 0xE0
  , 0xF0, 0x80, 0x80, 0x80, 0xF0
  , 0xE0, 0x90, 0x90, 0x90, 0xE0
  , 0xF0, 0x80, 0xF0, 0x80, 0xF0
  , 0xF0, 0x80, 0xF0, 0x80, 0x80 ]

/-- `FONT`, 80 bytes. -/
def Params.font : List Byte := Params.fontLow ++ Params.fontHigh

/-- What an address holds after reset with no program image loaded, which is what an address that memory does not list
reads as: the font at 0x000 to 0x04F, `RESET_FILL` elsewhere (10_state.md rules R31, R32, R40). -/
def resetByte (a : Nat) : Byte := Params.font.getD a Params.resetFill

end Sys2Proof.Machine
end

