-- ==== Sys2Proof/Syntax.lean ====
section
/-! DEFINITION. The instructions: one constructor per row of spec/opcode_table.json, in the table's order.
The 34 forms of 30_encoding.md rule R76 carry the operand fields of rule R72. Each of the 69 rows of format NOP, which cut
the unrecognised words into cubes, carries the whole word, since its don't-care bits name no field. -/

namespace Sys2Proof

/-- One instruction (30_encoding.md rules R71, R72, R76, R79). `shr` and `shl` keep the ignored field Y, and `ldVxK` and
`ldStVx` the unused field X (rule R78), so that no bit of an encoding is lost. -/
inductive Instr where
  | cls  -- CLS: 00E0, R150
  | ret  -- RET: 00EE, R100
  | jp (nnn : Addr12)  -- JP: 1NNN, R101
  | call (nnn : Addr12)  -- CALL: 2NNN, R102
  | seImm (x : Nibble) (nn : Byte)  -- SE_imm: 3XNN, R103
  | sneImm (x : Nibble) (nn : Byte)  -- SNE_imm: 4XNN, R104
  | seReg (x : Nibble) (y : Nibble)  -- SE_reg: 5XY0, R105
  | sneReg (x : Nibble) (y : Nibble)  -- SNE_reg: 9XY0, R106
  | ldImm (x : Nibble) (nn : Byte)  -- LD_imm: 6XNN, R120
  | addImm (x : Nibble) (nn : Byte)  -- ADD_imm: 7XNN, R121
  | ldReg (x : Nibble) (y : Nibble)  -- LD_reg: 8XY0, R122
  | orReg (x : Nibble) (y : Nibble)  -- OR: 8XY1, R123
  | andReg (x : Nibble) (y : Nibble)  -- AND: 8XY2, R124
  | xorReg (x : Nibble) (y : Nibble)  -- XOR: 8XY3, R125
  | addReg (x : Nibble) (y : Nibble)  -- ADD_reg: 8XY4, R126
  | sub (x : Nibble) (y : Nibble)  -- SUB: 8XY5, R127
  | shr (x : Nibble) (y : Nibble)  -- SHR: 8XY6, R128
  | subn (x : Nibble) (y : Nibble)  -- SUBN: 8XY7, R129
  | shl (x : Nibble) (y : Nibble)  -- SHL: 8XYE, R130
  | ldI (nnn : Addr12)  -- LD_I: ANNN, R140
  | jpV0 (nnn : Addr12)  -- JP_V0: BNNN, R107
  | rnd (x : Nibble) (nn : Byte)  -- RND: CXNN, R131
  | drw (x : Nibble) (y : Nibble) (n : Nibble)  -- DRW: DXYN, R152
  | skp (x : Nibble)  -- SKP: EX9E, R160
  | sknp (x : Nibble)  -- SKNP: EXA1, R161
  | ldVxDt (x : Nibble)  -- LD_VX_DT: FX07, R162
  | ldDtVx (x : Nibble)  -- LD_DT_VX: FX15, R164
  | ldVxK (x : Nibble)  -- LD_VX_K: FX0A, R163
  | ldStVx (x : Nibble)  -- LD_ST_VX: FX18, R165
  | addI (x : Nibble)  -- ADD_I: FX1E, R141
  | ldF (x : Nibble)  -- LD_F: FX29, R142
  | ldB (x : Nibble)  -- LD_B: FX33, R143
  | ldMemVx (x : Nibble)  -- LD_MEM_VX: FX55, R144
  | ldVxMem (x : Nibble)  -- LD_VX_MEM: FX65, R145
  | nop001 (w : Word)  -- NOP_0_01: 000000000-------, R170
  | nop002 (w : Word)  -- NOP_0_02: 0000000010------, R170
  | nop003 (w : Word)  -- NOP_0_03: 00000000110-----, R170
  | nop004 (w : Word)  -- NOP_0_04: 0000000011100001, R170
  | nop005 (w : Word)  -- NOP_0_05: 000000001110001-, R170
  | nop006 (w : Word)  -- NOP_0_06: 00000000111001--, R170
  | nop007 (w : Word)  -- NOP_0_07: 00000000111010--, R170
  | nop008 (w : Word)  -- NOP_0_08: 000000001110110-, R170
  | nop009 (w : Word)  -- NOP_0_09: 0000000011101111, R170
  | nop010 (w : Word)  -- NOP_0_10: 000000001111----, R170
  | nop011 (w : Word)  -- NOP_0_11: 00000001--------, R170
  | nop012 (w : Word)  -- NOP_0_12: 0000001---------, R170
  | nop013 (w : Word)  -- NOP_0_13: 000001----------, R170
  | nop014 (w : Word)  -- NOP_0_14: 00001-----------, R170
  | nop501 (w : Word)  -- NOP_5_01: 0101--------0001, R171
  | nop502 (w : Word)  -- NOP_5_02: 0101--------001-, R171
  | nop503 (w : Word)  -- NOP_5_03: 0101--------01--, R171
  | nop504 (w : Word)  -- NOP_5_04: 0101--------1---, R171
  | nop901 (w : Word)  -- NOP_9_01: 1001--------0001, R173
  | nop902 (w : Word)  -- NOP_9_02: 1001--------001-, R173
  | nop903 (w : Word)  -- NOP_9_03: 1001--------01--, R173
  | nop904 (w : Word)  -- NOP_9_04: 1001--------1---, R173
  | nop801 (w : Word)  -- NOP_8_01: 1000--------10--, R172
  | nop802 (w : Word)  -- NOP_8_02: 1000--------110-, R172
  | nop803 (w : Word)  -- NOP_8_03: 1000--------1111, R172
  | nopE01 (w : Word)  -- NOP_E_01: 1110----0-------, R174
  | nopE02 (w : Word)  -- NOP_E_02: 1110----1000----, R174
  | nopE03 (w : Word)  -- NOP_E_03: 1110----10010---, R174
  | nopE04 (w : Word)  -- NOP_E_04: 1110----100110--, R174
  | nopE05 (w : Word)  -- NOP_E_05: 1110----1001110-, R174
  | nopE06 (w : Word)  -- NOP_E_06: 1110----10011111, R174
  | nopE07 (w : Word)  -- NOP_E_07: 1110----10100000, R174
  | nopE08 (w : Word)  -- NOP_E_08: 1110----1010001-, R174
  | nopE09 (w : Word)  -- NOP_E_09: 1110----101001--, R174
  | nopE10 (w : Word)  -- NOP_E_10: 1110----10101---, R174
  | nopE11 (w : Word)  -- NOP_E_11: 1110----1011----, R174
  | nopE12 (w : Word)  -- NOP_E_12: 1110----11------, R174
  | nopF01 (w : Word)  -- NOP_F_01: 1111----000000--, R175
  | nopF02 (w : Word)  -- NOP_F_02: 1111----0000010-, R175
  | nopF03 (w : Word)  -- NOP_F_03: 1111----00000110, R175
  | nopF04 (w : Word)  -- NOP_F_04: 1111----0000100-, R175
  | nopF05 (w : Word)  -- NOP_F_05: 1111----00001011, R175
  | nopF06 (w : Word)  -- NOP_F_06: 1111----000011--, R175
  | nopF07 (w : Word)  -- NOP_F_07: 1111----000100--, R175
  | nopF08 (w : Word)  -- NOP_F_08: 1111----00010100, R175
  | nopF09 (w : Word)  -- NOP_F_09: 1111----0001011-, R175
  | nopF10 (w : Word)  -- NOP_F_10: 1111----00011001, R175
  | nopF11 (w : Word)  -- NOP_F_11: 1111----0001101-, R175
  | nopF12 (w : Word)  -- NOP_F_12: 1111----0001110-, R175
  | nopF13 (w : Word)  -- NOP_F_13: 1111----00011111, R175
  | nopF14 (w : Word)  -- NOP_F_14: 1111----00100---, R175
  | nopF15 (w : Word)  -- NOP_F_15: 1111----00101000, R175
  | nopF16 (w : Word)  -- NOP_F_16: 1111----0010101-, R175
  | nopF17 (w : Word)  -- NOP_F_17: 1111----001011--, R175
  | nopF18 (w : Word)  -- NOP_F_18: 1111----0011000-, R175
  | nopF19 (w : Word)  -- NOP_F_19: 1111----00110010, R175
  | nopF20 (w : Word)  -- NOP_F_20: 1111----001101--, R175
  | nopF21 (w : Word)  -- NOP_F_21: 1111----00111---, R175
  | nopF22 (w : Word)  -- NOP_F_22: 1111----0100----, R175
  | nopF23 (w : Word)  -- NOP_F_23: 1111----010100--, R175
  | nopF24 (w : Word)  -- NOP_F_24: 1111----01010100, R175
  | nopF25 (w : Word)  -- NOP_F_25: 1111----0101011-, R175
  | nopF26 (w : Word)  -- NOP_F_26: 1111----01011---, R175
  | nopF27 (w : Word)  -- NOP_F_27: 1111----011000--, R175
  | nopF28 (w : Word)  -- NOP_F_28: 1111----01100100, R175
  | nopF29 (w : Word)  -- NOP_F_29: 1111----0110011-, R175
  | nopF30 (w : Word)  -- NOP_F_30: 1111----01101---, R175
  | nopF31 (w : Word)  -- NOP_F_31: 1111----0111----, R175
  | nopF32 (w : Word)  -- NOP_F_32: 1111----1-------, R175
deriving DecidableEq, Repr

end Sys2Proof
end

