-- ==== Sys2Proof/Machine/State.lean ====
section
/-! DEFINITION. The machine's state as plain data (10_state.md rule R20), the reasons a step can stop, and reset. -/

namespace Sys2Proof.Machine

/-- The two stack faults that `STATUS` can record (10_state.md rule R35). -/
inductive StackFault where
  | stackUnderflow
  | stackOverflow
deriving DecidableEq, Repr

/-- `STATUS`, the run state (10_state.md rule R35). -/
inductive Status where
  /-- CPU steps are taken. -/
  | running
  /-- EndOfProgram was raised. -/
  | ended
  /-- A stack fault was raised. -/
  | faulted (f : StackFault)
  /-- The host asked to stop. -/
  | quit
deriving DecidableEq, Repr

/-- Where in the run loop of 40_fetch_decode_execute.md rule R94 the machine stands: which agent moves next. -/
inductive Phase where
  /-- The host is polled next. -/
  | poll
  /-- The ticks that are due come next, and then one CPU step. -/
  | run
deriving DecidableEq, Repr

/-- The display grid, column first: 64 columns of 32 pixels (10_state.md rule R33). -/
abbrev Display := Vector (Vector Bool 32) 64

/-- The display with every pixel unlit. -/
def Display.blank : Display := Vector.replicate 64 (Vector.replicate 32 false)

/-- Memory: the cells that differ from their reset byte, by strictly rising address. -/
abbrev Memory := List Host.Cell

/-- The whole state. Under "block" stands the spec's architectural state (10_state.md rule R20), under "ports" the
surroundings' side of the ports (60_exceptions.md rule R196), under "model" the model's own fields (log entries 10, 34). -/
structure State where
  /-- block: `V[0]`..`V[15]` (rule R21). -/
  v : Vector Byte 16
  /-- block: the index register `I` (rule R28). -/
  i : Word
  /-- block: the program counter (rule R24). -/
  pc : Word
  /-- block: `STACK[0]`..`STACK[15]` (rule R29). -/
  stack : Vector Word 16
  /-- block: the stack pointer, 0..15 (rule R29). -/
  sp : Fin 16
  /-- block: `MEM` (rule R30). -/
  mem : Memory
  /-- block: `DISP` (rule R33). -/
  disp : Display
  /-- block: the countdown timer (rule R34). -/
  dt : Byte
  /-- block: the run state (rule R35). -/
  status : Status
  /-- ports: `key_pressed`, bit `k` for hex key `k` (60_exceptions.md rule R198). -/
  keys : BitVec 16
  /-- ports: 60 Hz ticks due and not yet applied (60_exceptions.md rule R192). -/
  ticksDue : Nat
  /-- ports: the grid last handed to the host (60_exceptions.md rule R197). -/
  shown : Display
  /-- ports: how many grids have been handed to the host (40_fetch_decode_execute.md rule R95). -/
  presents : Nat
  /-- model: which agent moves next. -/
  phase : Phase
  /-- model: the index of the next host poll, to which the host's free values are applied. -/
  polls : Nat
  /-- model: the index of the next random byte, to which `Config.randomByte` is applied. -/
  draws : Nat
deriving DecidableEq, Repr

/-- Why a step is not taken: the machine has stopped for good (10_state.md rule R35, 60_exceptions.md rule R189). Raised by
`step` alone; no instruction's meaning ends in a fault. -/
inductive Fault where
  /-- `STATUS = ENDED`: the normal end of a run (40_fetch_decode_execute.md rule R96). Safe: no step exists. -/
  | ended
  /-- `STATUS = FAULTED(StackUnderflow)` (60_exceptions.md rule R182). Safe: no step exists. -/
  | stackUnderflow
  /-- `STATUS = FAULTED(StackOverflow)` (60_exceptions.md rule R183). Safe: no step exists. -/
  | stackOverflow
  /-- `STATUS = QUIT`: the host asked to stop (60_exceptions.md rule R201). Safe: no step exists. -/
  | quit
deriving DecidableEq, Repr

/-- Why an instruction has no meaning. No arm of `exec` answers one: every row of the table has its meaning. -/
inductive Refusal where
  /-- The row is not modelled yet; raised by an arm of `exec` only. Safe: the run stops. -/
  | notModelled (mnemonic : String)
deriving DecidableEq, Repr

/-- The machine right after reset with the empty program image (10_state.md rule R40, 70_reset_and_hazards.md rules R210,
R212): `PC`, `DT`, `SP` and `STATUS` as the spec states them, memory with nothing listed. `V`, `I`, the stack slots and the
display are at `RESET_FILL` (DESIGN CHOICE, decision D13, log entry 1); the fields of the ports and of the model at the
values of log entry 34 (DESIGN CHOICE). -/
def State.reset : State where
  v        := Vector.replicate 16 Params.resetFill
  i        := 0
  pc       := 0x200
  stack    := Vector.replicate 16 0
  sp       := 0
  mem      := []
  disp     := Display.blank
  dt       := 0
  status   := .running
  keys     := 0
  ticksDue := 0
  shown    := Display.blank
  presents := 0
  phase    := .poll
  polls    := 0
  draws    := 0

end Sys2Proof.Machine
end

