-- ==== Sys2Proof/Machine/Agents.lean ====
section
/-! DEFINITION. The agents beside the CPU (00_scope.md rule R6): the 60 Hz tick and the host. -/

namespace Sys2Proof.Machine

/-- The tick: the countdown saturates at 0 (60_exceptions.md rule R192). -/
def tickDown (dt : Byte) : Byte := if dt = 0 then 0 else dt - 1

/-- One tick step: one tick that was due is applied. -/
def tickStep (s : State) : State := { s with dt := tickDown s.dt, ticksDue := s.ticksDue - 1 }

/-- The host's turn at the top of a loop iteration (40_fetch_decode_execute.md rule R94): it may quit, and then nothing else
changes (60_exceptions.md rule R201); otherwise the keys take their new state (rule R198), the ticks up to the next CPU step
fall due (rule R192), and the loop goes on. All three are FREE VALUES (log entries 11, 12, 15). -/
def hostStep (s : State) : State :=
  if Config.hostQuits s.polls then { s with status := .quit }
  else { s with
    keys     := Config.hostKeys s.polls
    ticksDue := s.ticksDue + Config.ticksDelivered s.polls
    phase    := .run
    polls    := s.polls + 1 }

end Sys2Proof.Machine
end

