-- ==== Sys2Proof/WellFormed.lean ====
section
/-! DEFINITION. Which instructions are well formed. Every operand value of the 34 forms is legal (30_encoding.md rules
R72, R78), so only the NOP rows have a check: the word lies in the row's cube. -/

namespace Sys2Proof

/-- The word `w` agrees with `value` on the bits of `mask` (30_encoding.md rule R76). -/
def inCube (mask value w : Word) : Bool := w &&& mask == value

/-- The check of one instruction. -/
def Instr.wellFormed : Instr → Bool
  | .cls => true
  | .ret => true
  | .jp _ => true
  | .call _ => true
  | .seImm _ _ => true
  | .sneImm _ _ => true
  | .seReg _ _ => true
  | .sneReg _ _ => true
  | .ldImm _ _ => true
  | .addImm _ _ => true
  | .ldReg _ _ => true
  | .orReg _ _ => true
  | .andReg _ _ => true
  | .xorReg _ _ => true
  | .addReg _ _ => true
  | .sub _ _ => true
  | .shr _ _ => true
  | .subn _ _ => true
  | .shl _ _ => true
  | .ldI _ => true
  | .jpV0 _ => true
  | .rnd _ _ => true
  | .drw _ _ _ => true
  | .skp _ => true
  | .sknp _ => true
  | .ldVxDt _ => true
  | .ldDtVx _ => true
  | .ldVxK _ => true
  | .ldStVx _ => true
  | .addI _ => true
  | .ldF _ => true
  | .ldB _ => true
  | .ldMemVx _ => true
  | .ldVxMem _ => true
  | .nop001 w => inCube 0xFF80 0x0000 w
  | .nop002 w => inCube 0xFFC0 0x0080 w
  | .nop003 w => inCube 0xFFE0 0x00C0 w
  | .nop004 w => inCube 0xFFFF 0x00E1 w
  | .nop005 w => inCube 0xFFFE 0x00E2 w
  | .nop006 w => inCube 0xFFFC 0x00E4 w
  | .nop007 w => inCube 0xFFFC 0x00E8 w
  | .nop008 w => inCube 0xFFFE 0x00EC w
  | .nop009 w => inCube 0xFFFF 0x00EF w
  | .nop010 w => inCube 0xFFF0 0x00F0 w
  | .nop011 w => inCube 0xFF00 0x0100 w
  | .nop012 w => inCube 0xFE00 0x0200 w
  | .nop013 w => inCube 0xFC00 0x0400 w
  | .nop014 w => inCube 0xF800 0x0800 w
  | .nop501 w => inCube 0xF00F 0x5001 w
  | .nop502 w => inCube 0xF00E 0x5002 w
  | .nop503 w => inCube 0xF00C 0x5004 w
  | .nop504 w => inCube 0xF008 0x5008 w
  | .nop901 w => inCube 0xF00F 0x9001 w
  | .nop902 w => inCube 0xF00E 0x9002 w
  | .nop903 w => inCube 0xF00C 0x9004 w
  | .nop904 w => inCube 0xF008 0x9008 w
  | .nop801 w => inCube 0xF00C 0x8008 w
  | .nop802 w => inCube 0xF00E 0x800C w
  | .nop803 w => inCube 0xF00F 0x800F w
  | .nopE01 w => inCube 0xF080 0xE000 w
  | .nopE02 w => inCube 0xF0F0 0xE080 w
  | .nopE03 w => inCube 0xF0F8 0xE090 w
  | .nopE04 w => inCube 0xF0FC 0xE098 w
  | .nopE05 w => inCube 0xF0FE 0xE09C w
  | .nopE06 w => inCube 0xF0FF 0xE09F w
  | .nopE07 w => inCube 0xF0FF 0xE0A0 w
  | .nopE08 w => inCube 0xF0FE 0xE0A2 w
  | .nopE09 w => inCube 0xF0FC 0xE0A4 w
  | .nopE10 w => inCube 0xF0F8 0xE0A8 w
  | .nopE11 w => inCube 0xF0F0 0xE0B0 w
  | .nopE12 w => inCube 0xF0C0 0xE0C0 w
  | .nopF01 w => inCube 0xF0FC 0xF000 w
  | .nopF02 w => inCube 0xF0FE 0xF004 w
  | .nopF03 w => inCube 0xF0FF 0xF006 w
  | .nopF04 w => inCube 0xF0FE 0xF008 w
  | .nopF05 w => inCube 0xF0FF 0xF00B w
  | .nopF06 w => inCube 0xF0FC 0xF00C w
  | .nopF07 w => inCube 0xF0FC 0xF010 w
  | .nopF08 w => inCube 0xF0FF 0xF014 w
  | .nopF09 w => inCube 0xF0FE 0xF016 w
  | .nopF10 w => inCube 0xF0FF 0xF019 w
  | .nopF11 w => inCube 0xF0FE 0xF01A w
  | .nopF12 w => inCube 0xF0FE 0xF01C w
  | .nopF13 w => inCube 0xF0FF 0xF01F w
  | .nopF14 w => inCube 0xF0F8 0xF020 w
  | .nopF15 w => inCube 0xF0FF 0xF028 w
  | .nopF16 w => inCube 0xF0FE 0xF02A w
  | .nopF17 w => inCube 0xF0FC 0xF02C w
  | .nopF18 w => inCube 0xF0FE 0xF030 w
  | .nopF19 w => inCube 0xF0FF 0xF032 w
  | .nopF20 w => inCube 0xF0FC 0xF034 w
  | .nopF21 w => inCube 0xF0F8 0xF038 w
  | .nopF22 w => inCube 0xF0F0 0xF040 w
  | .nopF23 w => inCube 0xF0FC 0xF050 w
  | .nopF24 w => inCube 0xF0FF 0xF054 w
  | .nopF25 w => inCube 0xF0FE 0xF056 w
  | .nopF26 w => inCube 0xF0F8 0xF058 w
  | .nopF27 w => inCube 0xF0FC 0xF060 w
  | .nopF28 w => inCube 0xF0FF 0xF064 w
  | .nopF29 w => inCube 0xF0FE 0xF066 w
  | .nopF30 w => inCube 0xF0F8 0xF068 w
  | .nopF31 w => inCube 0xF0F0 0xF070 w
  | .nopF32 w => inCube 0xF080 0xF080 w

/-- Is the instruction one of the 34 forms of rule R76 (true), or a word of the no-operation fallback (false)? -/
def Instr.recognised : Instr → Bool
  | .cls => true
  | .ret => true
  | .jp _ => true
  | .call _ => true
  | .seImm _ _ => true
  | .sneImm _ _ => true
  | .seReg _ _ => true
  | .sneReg _ _ => true
  | .ldImm _ _ => true
  | .addImm _ _ => true
  | .ldReg _ _ => true
  | .orReg _ _ => true
  | .andReg _ _ => true
  | .xorReg _ _ => true
  | .addReg _ _ => true
  | .sub _ _ => true
  | .shr _ _ => true
  | .subn _ _ => true
  | .shl _ _ => true
  | .ldI _ => true
  | .jpV0 _ => true
  | .rnd _ _ => true
  | .drw _ _ _ => true
  | .skp _ => true
  | .sknp _ => true
  | .ldVxDt _ => true
  | .ldDtVx _ => true
  | .ldVxK _ => true
  | .ldStVx _ => true
  | .addI _ => true
  | .ldF _ => true
  | .ldB _ => true
  | .ldMemVx _ => true
  | .ldVxMem _ => true
  | .nop001 _ => false
  | .nop002 _ => false
  | .nop003 _ => false
  | .nop004 _ => false
  | .nop005 _ => false
  | .nop006 _ => false
  | .nop007 _ => false
  | .nop008 _ => false
  | .nop009 _ => false
  | .nop010 _ => false
  | .nop011 _ => false
  | .nop012 _ => false
  | .nop013 _ => false
  | .nop014 _ => false
  | .nop501 _ => false
  | .nop502 _ => false
  | .nop503 _ => false
  | .nop504 _ => false
  | .nop901 _ => false
  | .nop902 _ => false
  | .nop903 _ => false
  | .nop904 _ => false
  | .nop801 _ => false
  | .nop802 _ => false
  | .nop803 _ => false
  | .nopE01 _ => false
  | .nopE02 _ => false
  | .nopE03 _ => false
  | .nopE04 _ => false
  | .nopE05 _ => false
  | .nopE06 _ => false
  | .nopE07 _ => false
  | .nopE08 _ => false
  | .nopE09 _ => false
  | .nopE10 _ => false
  | .nopE11 _ => false
  | .nopE12 _ => false
  | .nopF01 _ => false
  | .nopF02 _ => false
  | .nopF03 _ => false
  | .nopF04 _ => false
  | .nopF05 _ => false
  | .nopF06 _ => false
  | .nopF07 _ => false
  | .nopF08 _ => false
  | .nopF09 _ => false
  | .nopF10 _ => false
  | .nopF11 _ => false
  | .nopF12 _ => false
  | .nopF13 _ => false
  | .nopF14 _ => false
  | .nopF15 _ => false
  | .nopF16 _ => false
  | .nopF17 _ => false
  | .nopF18 _ => false
  | .nopF19 _ => false
  | .nopF20 _ => false
  | .nopF21 _ => false
  | .nopF22 _ => false
  | .nopF23 _ => false
  | .nopF24 _ => false
  | .nopF25 _ => false
  | .nopF26 _ => false
  | .nopF27 _ => false
  | .nopF28 _ => false
  | .nopF29 _ => false
  | .nopF30 _ => false
  | .nopF31 _ => false
  | .nopF32 _ => false

end Sys2Proof
end

