-- ==== Sys2Proof/Decode.lean ====
section
/-! DEFINITION. Decoding and encoding (30_encoding.md). The table below holds the rows of spec/opcode_table.json: the 34
forms of rule R76 in its order, then the NOP rows family by family. Decoding is total (rule R79). -/

namespace Sys2Proof

/-- The field X (00_scope.md rule R7). -/
def fieldX (w : Word) : Nibble := w.extractLsb' 8 4

/-- The field Y. -/
def fieldY (w : Word) : Nibble := w.extractLsb' 4 4

/-- The field N. -/
def fieldN (w : Word) : Nibble := w.extractLsb' 0 4

/-- The field NN. -/
def fieldNN (w : Word) : Byte := w.extractLsb' 0 8

/-- The field NNN. -/
def fieldNNN (w : Word) : Addr12 := w.extractLsb' 0 12

/-- The opcode family, the top nibble (30_encoding.md rule R73). -/
def family (w : Word) : Nibble := w.extractLsb' 12 4

/-- One row of the opcode table: a word is the row's iff it agrees with `value` under `mask`; `build` reads the operands. -/
structure Row where
  mask  : Word
  value : Word
  build : Word → Instr

/-- Does the row take the word? -/
def Row.accepts (r : Row) (w : Word) : Bool := inCube r.mask r.value w

/-- The forms of families 0 to 7 and 9 (rule R76, rows 1 to 10). -/
def formRowsFixed : List Row :=
  [ ⟨0xFFFF, 0x00E0, fun _ => .cls⟩
  , ⟨0xFFFF, 0x00EE, fun _ => .ret⟩
  , ⟨0xF000, 0x1000, fun w => .jp (fieldNNN w)⟩
  , ⟨0xF000, 0x2000, fun w => .call (fieldNNN w)⟩
  , ⟨0xF000, 0x3000, fun w => .seImm (fieldX w) (fieldNN w)⟩
  , ⟨0xF000, 0x4000, fun w => .sneImm (fieldX w) (fieldNN w)⟩
  , ⟨0xF00F, 0x5000, fun w => .seReg (fieldX w) (fieldY w)⟩
  , ⟨0xF00F, 0x9000, fun w => .sneReg (fieldX w) (fieldY w)⟩
  , ⟨0xF000, 0x6000, fun w => .ldImm (fieldX w) (fieldNN w)⟩
  , ⟨0xF000, 0x7000, fun w => .addImm (fieldX w) (fieldNN w)⟩ ]

/-- The forms of family 8 (rule R76, rows 11 to 19). -/
def formRowsAlu : List Row :=
  [ ⟨0xF00F, 0x8000, fun w => .ldReg (fieldX w) (fieldY w)⟩
  , ⟨0xF00F, 0x8001, fun w => .orReg (fieldX w) (fieldY w)⟩
  , ⟨0xF00F, 0x8002, fun w => .andReg (fieldX w) (fieldY w)⟩
  , ⟨0xF00F, 0x8003, fun w => .xorReg (fieldX w) (fieldY w)⟩
  , ⟨0xF00F, 0x8004, fun w => .addReg (fieldX w) (fieldY w)⟩
  , ⟨0xF00F, 0x8005, fun w => .sub (fieldX w) (fieldY w)⟩
  , ⟨0xF00F, 0x8006, fun w => .shr (fieldX w) (fieldY w)⟩
  , ⟨0xF00F, 0x8007, fun w => .subn (fieldX w) (fieldY w)⟩
  , ⟨0xF00F, 0x800E, fun w => .shl (fieldX w) (fieldY w)⟩ ]

/-- The forms of families A to F (rule R76, rows 20 to 34). -/
def formRowsHigh : List Row :=
  [ ⟨0xF000, 0xA000, fun w => .ldI (fieldNNN w)⟩
  , ⟨0xF000, 0xB000, fun w => .jpV0 (fieldNNN w)⟩
  , ⟨0xF000, 0xC000, fun w => .rnd (fieldX w) (fieldNN w)⟩
  , ⟨0xF000, 0xD000, fun w => .drw (fieldX w) (fieldY w) (fieldN w)⟩
  , ⟨0xF0FF, 0xE09E, fun w => .skp (fieldX w)⟩
  , ⟨0xF0FF, 0xE0A1, fun w => .sknp (fieldX w)⟩
  , ⟨0xF0FF, 0xF007, fun w => .ldVxDt (fieldX w)⟩
  , ⟨0xF0FF, 0xF015, fun w => .ldDtVx (fieldX w)⟩
  , ⟨0xF0FF, 0xF00A, fun w => .ldVxK (fieldX w)⟩
  , ⟨0xF0FF, 0xF018, fun w => .ldStVx (fieldX w)⟩
  , ⟨0xF0FF, 0xF01E, fun w => .addI (fieldX w)⟩
  , ⟨0xF0FF, 0xF029, fun w => .ldF (fieldX w)⟩
  , ⟨0xF0FF, 0xF033, fun w => .ldB (fieldX w)⟩
  , ⟨0xF0FF, 0xF055, fun w => .ldMemVx (fieldX w)⟩
  , ⟨0xF0FF, 0xF065, fun w => .ldVxMem (fieldX w)⟩ ]

/-- Unrecognised words of family 0 (46_unrecognised.md rule R170). -/
def nopRows0 : List Row :=
  [ ⟨0xFF80, 0x0000, .nop001⟩
  , ⟨0xFFC0, 0x0080, .nop002⟩
  , ⟨0xFFE0, 0x00C0, .nop003⟩
  , ⟨0xFFFF, 0x00E1, .nop004⟩
  , ⟨0xFFFE, 0x00E2, .nop005⟩
  , ⟨0xFFFC, 0x00E4, .nop006⟩
  , ⟨0xFFFC, 0x00E8, .nop007⟩
  , ⟨0xFFFE, 0x00EC, .nop008⟩
  , ⟨0xFFFF, 0x00EF, .nop009⟩
  , ⟨0xFFF0, 0x00F0, .nop010⟩
  , ⟨0xFF00, 0x0100, .nop011⟩
  , ⟨0xFE00, 0x0200, .nop012⟩
  , ⟨0xFC00, 0x0400, .nop013⟩
  , ⟨0xF800, 0x0800, .nop014⟩ ]

/-- Unrecognised words of family 5 (46_unrecognised.md rule R171). -/
def nopRows5 : List Row :=
  [ ⟨0xF00F, 0x5001, .nop501⟩
  , ⟨0xF00E, 0x5002, .nop502⟩
  , ⟨0xF00C, 0x5004, .nop503⟩
  , ⟨0xF008, 0x5008, .nop504⟩ ]

/-- Unrecognised words of family 9 (46_unrecognised.md rule R173). -/
def nopRows9 : List Row :=
  [ ⟨0xF00F, 0x9001, .nop901⟩
  , ⟨0xF00E, 0x9002, .nop902⟩
  , ⟨0xF00C, 0x9004, .nop903⟩
  , ⟨0xF008, 0x9008, .nop904⟩ ]

/-- Unrecognised words of family 8 (46_unrecognised.md rule R172). -/
def nopRows8 : List Row :=
  [ ⟨0xF00C, 0x8008, .nop801⟩
  , ⟨0xF00E, 0x800C, .nop802⟩
  , ⟨0xF00F, 0x800F, .nop803⟩ ]

/-- Unrecognised words of family E (46_unrecognised.md rule R174). -/
def nopRowsE : List Row :=
  [ ⟨0xF080, 0xE000, .nopE01⟩
  , ⟨0xF0F0, 0xE080, .nopE02⟩
  , ⟨0xF0F8, 0xE090, .nopE03⟩
  , ⟨0xF0FC, 0xE098, .nopE04⟩
  , ⟨0xF0FE, 0xE09C, .nopE05⟩
  , ⟨0xF0FF, 0xE09F, .nopE06⟩
  , ⟨0xF0FF, 0xE0A0, .nopE07⟩
  , ⟨0xF0FE, 0xE0A2, .nopE08⟩
  , ⟨0xF0FC, 0xE0A4, .nopE09⟩
  , ⟨0xF0F8, 0xE0A8, .nopE10⟩
  , ⟨0xF0F0, 0xE0B0, .nopE11⟩
  , ⟨0xF0C0, 0xE0C0, .nopE12⟩ ]

/-- Unrecognised words of family F with a low byte below 0x30 (46_unrecognised.md rule R175). -/
def nopRowsFLow : List Row :=
  [ ⟨0xF0FC, 0xF000, .nopF01⟩
  , ⟨0xF0FE, 0xF004, .nopF02⟩
  , ⟨0xF0FF, 0xF006, .nopF03⟩
  , ⟨0xF0FE, 0xF008, .nopF04⟩
  , ⟨0xF0FF, 0xF00B, .nopF05⟩
  , ⟨0xF0FC, 0xF00C, .nopF06⟩
  , ⟨0xF0FC, 0xF010, .nopF07⟩
  , ⟨0xF0FF, 0xF014, .nopF08⟩
  , ⟨0xF0FE, 0xF016, .nopF09⟩
  , ⟨0xF0FF, 0xF019, .nopF10⟩
  , ⟨0xF0FE, 0xF01A, .nopF11⟩
  , ⟨0xF0FE, 0xF01C, .nopF12⟩
  , ⟨0xF0FF, 0xF01F, .nopF13⟩
  , ⟨0xF0F8, 0xF020, .nopF14⟩
  , ⟨0xF0FF, 0xF028, .nopF15⟩
  , ⟨0xF0FE, 0xF02A, .nopF16⟩
  , ⟨0xF0FC, 0xF02C, .nopF17⟩ ]

/-- Unrecognised words of family F with a low byte from 0x30 (46_unrecognised.md rule R175). -/
def nopRowsFHigh : List Row :=
  [ ⟨0xF0FE, 0xF030, .nopF18⟩
  , ⟨0xF0FF, 0xF032, .nopF19⟩
  , ⟨0xF0FC, 0xF034, .nopF20⟩
  , ⟨0xF0F8, 0xF038, .nopF21⟩
  , ⟨0xF0F0, 0xF040, .nopF22⟩
  , ⟨0xF0FC, 0xF050, .nopF23⟩
  , ⟨0xF0FF, 0xF054, .nopF24⟩
  , ⟨0xF0FE, 0xF056, .nopF25⟩
  , ⟨0xF0F8, 0xF058, .nopF26⟩
  , ⟨0xF0FC, 0xF060, .nopF27⟩
  , ⟨0xF0FF, 0xF064, .nopF28⟩
  , ⟨0xF0FE, 0xF066, .nopF29⟩
  , ⟨0xF0F8, 0xF068, .nopF30⟩
  , ⟨0xF0F0, 0xF070, .nopF31⟩
  , ⟨0xF080, 0xF080, .nopF32⟩ ]

/-- The whole opcode table. -/
def table : List Row :=
  formRowsFixed ++ formRowsAlu ++ formRowsHigh ++ nopRows0 ++ nopRows5 ++ nopRows9 ++ nopRows8 ++ nopRowsE ++ nopRowsFLow ++ nopRowsFHigh

/-- The decoder (40_fetch_decode_execute.md rule R92): the row that takes the word reads its operands. Some row takes every
word (`table_covers` of Laws/Decode.lean), so the last line, which only makes the function total, is never reached. -/
def decode (w : Word) : Instr :=
  match table.find? (fun r => r.accepts w) with
  | some r => r.build w
  | none   => .nopF32 w

/-- Why bytes in memory are not an instruction: only that there are fewer than two (30_encoding.md rules R70, R77). -/
inductive DecodeError where
  /-- Fewer bytes than the one instruction length, two. Safe: nothing is decoded. -/
  | truncated
deriving DecidableEq, Repr

/-- The word of two consecutive bytes, the first at the lower address: big-endian (20_memory.md rule R50). -/
def wordOfBytes (hi lo : Byte) : Word := hi ++ lo

/-- Decode the instruction at the head of a byte sequence and give the bytes after it. -/
def decodeBytes : List Byte → Except DecodeError (Instr × List Byte)
  | hi :: lo :: rest => .ok (decode (wordOfBytes hi lo), rest)
  | [_]              => .error .truncated
  | []               => .error .truncated

/-- The encoder: the word of a well-formed instruction (30_encoding.md rules R71, R76). -/
def encode : Instr → Word
  | .cls => 0x00E0#16
  | .ret => 0x00EE#16
  | .jp nnn => 0x1#4 ++ nnn
  | .call nnn => 0x2#4 ++ nnn
  | .seImm x nn => 0x3#4 ++ x ++ nn
  | .sneImm x nn => 0x4#4 ++ x ++ nn
  | .seReg x y => 0x5#4 ++ x ++ y ++ 0x0#4
  | .sneReg x y => 0x9#4 ++ x ++ y ++ 0x0#4
  | .ldImm x nn => 0x6#4 ++ x ++ nn
  | .addImm x nn => 0x7#4 ++ x ++ nn
  | .ldReg x y => 0x8#4 ++ x ++ y ++ 0x0#4
  | .orReg x y => 0x8#4 ++ x ++ y ++ 0x1#4
  | .andReg x y => 0x8#4 ++ x ++ y ++ 0x2#4
  | .xorReg x y => 0x8#4 ++ x ++ y ++ 0x3#4
  | .addReg x y => 0x8#4 ++ x ++ y ++ 0x4#4
  | .sub x y => 0x8#4 ++ x ++ y ++ 0x5#4
  | .shr x y => 0x8#4 ++ x ++ y ++ 0x6#4
  | .subn x y => 0x8#4 ++ x ++ y ++ 0x7#4
  | .shl x y => 0x8#4 ++ x ++ y ++ 0xE#4
  | .ldI nnn => 0xA#4 ++ nnn
  | .jpV0 nnn => 0xB#4 ++ nnn
  | .rnd x nn => 0xC#4 ++ x ++ nn
  | .drw x y n => 0xD#4 ++ x ++ y ++ n
  | .skp x => 0xE#4 ++ x ++ 0x9#4 ++ 0xE#4
  | .sknp x => 0xE#4 ++ x ++ 0xA#4 ++ 0x1#4
  | .ldVxDt x => 0xF#4 ++ x ++ 0x0#4 ++ 0x7#4
  | .ldDtVx x => 0xF#4 ++ x ++ 0x1#4 ++ 0x5#4
  | .ldVxK x => 0xF#4 ++ x ++ 0x0#4 ++ 0xA#4
  | .ldStVx x => 0xF#4 ++ x ++ 0x1#4 ++ 0x8#4
  | .addI x => 0xF#4 ++ x ++ 0x1#4 ++ 0xE#4
  | .ldF x => 0xF#4 ++ x ++ 0x2#4 ++ 0x9#4
  | .ldB x => 0xF#4 ++ x ++ 0x3#4 ++ 0x3#4
  | .ldMemVx x => 0xF#4 ++ x ++ 0x5#4 ++ 0x5#4
  | .ldVxMem x => 0xF#4 ++ x ++ 0x6#4 ++ 0x5#4
  | .nop001 w => w
  | .nop002 w => w
  | .nop003 w => w
  | .nop004 w => w
  | .nop005 w => w
  | .nop006 w => w
  | .nop007 w => w
  | .nop008 w => w
  | .nop009 w => w
  | .nop010 w => w
  | .nop011 w => w
  | .nop012 w => w
  | .nop013 w => w
  | .nop014 w => w
  | .nop501 w => w
  | .nop502 w => w
  | .nop503 w => w
  | .nop504 w => w
  | .nop901 w => w
  | .nop902 w => w
  | .nop903 w => w
  | .nop904 w => w
  | .nop801 w => w
  | .nop802 w => w
  | .nop803 w => w
  | .nopE01 w => w
  | .nopE02 w => w
  | .nopE03 w => w
  | .nopE04 w => w
  | .nopE05 w => w
  | .nopE06 w => w
  | .nopE07 w => w
  | .nopE08 w => w
  | .nopE09 w => w
  | .nopE10 w => w
  | .nopE11 w => w
  | .nopE12 w => w
  | .nopF01 w => w
  | .nopF02 w => w
  | .nopF03 w => w
  | .nopF04 w => w
  | .nopF05 w => w
  | .nopF06 w => w
  | .nopF07 w => w
  | .nopF08 w => w
  | .nopF09 w => w
  | .nopF10 w => w
  | .nopF11 w => w
  | .nopF12 w => w
  | .nopF13 w => w
  | .nopF14 w => w
  | .nopF15 w => w
  | .nopF16 w => w
  | .nopF17 w => w
  | .nopF18 w => w
  | .nopF19 w => w
  | .nopF20 w => w
  | .nopF21 w => w
  | .nopF22 w => w
  | .nopF23 w => w
  | .nopF24 w => w
  | .nopF25 w => w
  | .nopF26 w => w
  | .nopF27 w => w
  | .nopF28 w => w
  | .nopF29 w => w
  | .nopF30 w => w
  | .nopF31 w => w
  | .nopF32 w => w

/-- The two bytes of an instruction as they lie in memory, high byte first (20_memory.md rule R50). -/
def encodeBytes (i : Instr) : List Byte := [(encode i).extractLsb' 8 8, (encode i).extractLsb' 0 8]

/-- The instruction the decoder reads from a word of the opcode table: bit 0 of `w` is the word's least significant bit,
bits from `nbits` up are 0, and the two bytes lie in memory high byte first. A row wider than the one instruction length
is no row of this table. -/
def decodeTableWord (nbits w : Nat) : Option Instr :=
  if nbits ≤ 16 then
    match decodeBytes [BitVec.ofNat 8 (w % 2 ^ nbits / 256), BitVec.ofNat 8 (w % 2 ^ nbits)] with
    | .ok (i, _) => some i
    | .error _   => none
  else none

end Sys2Proof
end

