-- ==== Sys2Proof/Machine/Ops.lean ====
section
/-! DEFINITION. The named operations over memory, registers, stack and display, presenting, and raising a condition. -/

namespace Sys2Proof.Machine

/-! ### Memory -/

/-- The byte at an address (10_state.md rule R30). -/
def Memory.read : Memory → Nat → Byte
  | [], a => resetByte a
  | (c, b) :: m, a => if c = a then b else Memory.read m a

/-- Put a cell in front of the first cell with a larger address. -/
def Memory.insert (a : Nat) (b : Byte) : Memory → Memory
  | [] => [(a, b)]
  | (c, d) :: m => if a < c then (a, b) :: (c, d) :: m else (c, d) :: Memory.insert a b m

/-- Store a byte: the address's old cell goes, and a new one is listed unless it would hold the reset byte. -/
def Memory.write (m : Memory) (a : Nat) (b : Byte) : Memory :=
  let rest := m.filter (fun c => c.1 != a)
  if b = resetByte a then rest else Memory.insert a b rest

/-- The canonical form: addresses strictly rising and inside memory, no cell at its reset byte. -/
abbrev Memory.wf (m : Memory) : Prop :=
  m.Pairwise (fun c d => c.1 < d.1) ∧ ∀ c ∈ m, c.1 < Config.memSize ∧ c.2 ≠ resetByte c.1

/-- `MemRead(a, 1)`: the address is reduced modulo 4096 (00_scope.md rules R8, R9). -/
def State.memRead (s : State) (a : Nat) : Byte := s.mem.read (a % Config.memSize)

/-- `MemWrite(a, 1, b)` (00_scope.md rules R8, R9). -/
def State.memWrite (s : State) (a : Nat) (b : Byte) : State :=
  { s with mem := s.mem.write (a % Config.memSize) b }

/-! ### Registers -/

/-- `V[r]` (10_state.md rule R21). -/
def State.getV (s : State) (r : Nibble) : Byte := s.v[r.toNat]'r.isLt

/-- `V[r] <- b` (10_state.md rule R21). -/
def State.setV (s : State) (r : Nibble) (b : Byte) : State := { s with v := s.v.set r.toNat b r.isLt }

/-- `I <- w` (10_state.md rule R28). -/
def State.setI (s : State) (w : Word) : State := { s with i := w }

/-- `PC <- w` (10_state.md rule R24). -/
def State.setPc (s : State) (w : Word) : State := { s with pc := w }

/-- `DT <- b` (10_state.md rule R34). -/
def State.setDt (s : State) (b : Byte) : State := { s with dt := b }

/-- `PC <- PC + 2`: the fetch advance, and a taken skip (10_state.md rule R25, 41_control_flow.md rule R108). -/
def State.advance (s : State) : State := s.setPc (s.pc + 2)

/-- A skip taken iff the condition holds (41_control_flow.md rule R108). -/
def State.skipIf (s : State) (taken : Bool) : State := if taken then s.advance else s

/-! ### The call stack -/

/-- Push: the pointer is incremented first, then the slot is stored (10_state.md rule R29). -/
def State.push (s : State) (w : Word) : State :=
  { s with sp := s.sp + 1, stack := s.stack.set (s.sp + 1).val w (s.sp + 1).isLt }

/-- The return address on top (10_state.md rule R29). -/
def State.top (s : State) : Word := s.stack[s.sp.val]'s.sp.isLt

/-- Pop: the slot keeps its value (10_state.md rule R29, 41_control_flow.md rule R100). -/
def State.pop (s : State) : State := { s with sp := s.sp - 1 }

/-! ### Display and presentation -/

/-- `DISP[x][y]` (10_state.md rule R33). -/
def Display.pixel (d : Display) (x : Fin 64) (y : Fin 32) : Bool := (d[x.val]'x.isLt)[y.val]'y.isLt

/-- `DISP[x][y] <- DISP[x][y] ^ 1`. -/
def Display.toggle (d : Display) (x : Fin 64) (y : Fin 32) : Display :=
  d.set x.val ((d[x.val]'x.isLt).set y.val (!d.pixel x y) y.isLt) x.isLt

/-- `Present()`: the host is handed the grid (60_exceptions.md rule R197). -/
def State.present (s : State) : State := { s with shown := s.disp, presents := s.presents + 1 }

/-! ### Conditions -/

/-- The four conditions the hardware can raise (60_exceptions.md rule R180). -/
inductive Condition where
  | endOfProgram
  | stackUnderflow
  | stackOverflow
  | unrecognizedSubopcode
deriving DecidableEq, Repr

/-- The condition's number, for reference only: nothing stores it (rule R180, decision D21). -/
def Condition.code : Condition → Nat
  | .endOfProgram          => 1
  | .stackUnderflow        => 2
  | .stackOverflow         => 3
  | .unrecognizedSubopcode => 4

/-- Taking a condition, `raise` (60_exceptions.md rules R180 to R185): `STATUS` records it and nothing else changes. Nothing is
saved and control goes nowhere, so there is no return from it (rules R184, R189). UnrecognizedSubopcode is recovered. -/
def State.raise (s : State) : Condition → State
  | .endOfProgram          => { s with status := .ended }
  | .stackUnderflow        => { s with status := .faulted .stackUnderflow }
  | .stackOverflow         => { s with status := .faulted .stackOverflow }
  | .unrecognizedSubopcode => s

end Sys2Proof.Machine
end

