-- ==== Sys2Proof/Machine/Flags.lean ====
section
/-! DEFINITION. The flag held in `VF` and the five computations of it (10_state.md rules R22, R27). -/

namespace Sys2Proof.Machine

/-- The register that holds the flag. -/
def vf : Nibble := 0xF

/-- A flag as the byte stored in `VF`: `0x00` or `0x01` (10_state.md rule R22). -/
def flagByte (f : Bool) : Byte := if f then 1 else 0

/-- Carry out of bit 7 (42_alu.md rule R126). -/
def carryOut (a b : Byte) : Bool := decide (255 < a.toNat + b.toNat)

/-- The flag of the subtraction `a - b` (42_alu.md rules R127, R129; decision D5, log entry 4). -/
def subFlag (a b : Byte) : Bool :=
  match Params.borrowSense with
  | .borrow    => decide (a.toNat < b.toNat)
  | .notBorrow => decide (b.toNat ≤ a.toNat)

/-- The bit a right shift by one moves out (42_alu.md rule R128). -/
def shiftOutRight (a : Byte) : Bool := a.getLsbD 0

/-- The bit a left shift by one moves out (42_alu.md rule R130). -/
def shiftOutLeft (a : Byte) : Bool := a.getLsbD 7

/-- Write the result to `V[x]` and then the flag to `VF`, so that with X = F the flag survives (10_state.md rule R27,
decision D6; log entry 6). -/
def State.setResultFlag (s : State) (x : Nibble) (result : Byte) (f : Bool) : State :=
  (s.setV x result).setV vf (flagByte f)

end Sys2Proof.Machine
end

