-- ==== Sys2Proof/Machine/Alu.lean ====
section
/-! DEFINITION. Register load, add, the 8-bit ALU and the random byte (42_alu.md). Operands are read before any write. -/

namespace Sys2Proof.Machine

/-- `6XNN`, LD Vx, nn (rule R120). -/
def execLdImm (x : Nibble) (nn : Byte) (s : State) : Host.Outcome State Fault Refusal := .next (s.setV x nn)

/-- `7XNN`, ADD Vx, nn (rule R121): modulo 256, no flag. -/
def execAddImm (x : Nibble) (nn : Byte) (s : State) : Host.Outcome State Fault Refusal :=
  .next (s.setV x (s.getV x + nn))

/-- `8XY0`, LD Vx, Vy (rule R122). -/
def execLdReg (x y : Nibble) (s : State) : Host.Outcome State Fault Refusal := .next (s.setV x (s.getV y))

/-- `8XY1`, OR Vx, Vy (rule R123): `VF` is left alone (decision D7, log entry 23). -/
def execOrReg (x y : Nibble) (s : State) : Host.Outcome State Fault Refusal :=
  .next (s.setV x (s.getV x ||| s.getV y))

/-- `8XY2`, AND Vx, Vy (rule R124). -/
def execAndReg (x y : Nibble) (s : State) : Host.Outcome State Fault Refusal :=
  .next (s.setV x (s.getV x &&& s.getV y))

/-- `8XY3`, XOR Vx, Vy (rule R125). -/
def execXorReg (x y : Nibble) (s : State) : Host.Outcome State Fault Refusal :=
  .next (s.setV x (s.getV x ^^^ s.getV y))

/-- `8XY4`, ADD Vx, Vy (rule R126): the flag is the carry. -/
def execAddReg (x y : Nibble) (s : State) : Host.Outcome State Fault Refusal :=
  .next (s.setResultFlag x (s.getV x + s.getV y) (carryOut (s.getV x) (s.getV y)))

/-- `8XY5`, SUB Vx, Vy (rule R127): `V[X] - V[Y]`. -/
def execSub (x y : Nibble) (s : State) : Host.Outcome State Fault Refusal :=
  .next (s.setResultFlag x (s.getV x - s.getV y) (subFlag (s.getV x) (s.getV y)))

/-- `8XY6`, SHR Vx (rule R128): Y is ignored. -/
def execShr (x _y : Nibble) (s : State) : Host.Outcome State Fault Refusal :=
  .next (s.setResultFlag x (s.getV x >>> 1) (shiftOutRight (s.getV x)))

/-- `8XY7`, SUBN Vx, Vy (rule R129): `V[Y] - V[X]`. -/
def execSubn (x y : Nibble) (s : State) : Host.Outcome State Fault Refusal :=
  .next (s.setResultFlag x (s.getV y - s.getV x) (subFlag (s.getV y) (s.getV x)))

/-- `8XYE`, SHL Vx (rule R130): Y is ignored. -/
def execShl (x _y : Nibble) (s : State) : Host.Outcome State Fault Refusal :=
  .next (s.setResultFlag x (s.getV x <<< 1) (shiftOutLeft (s.getV x)))

/-- A fresh random byte, a FREE VALUE, and the state after the draw (60_exceptions.md rule R199; log entry 14). -/
def State.drawByte (s : State) : Byte × State := (Config.randomByte s.draws, { s with draws := s.draws + 1 })

/-- `CXNN`, RND Vx, nn (rule R131). -/
def execRnd (x : Nibble) (nn : Byte) (s : State) : Host.Outcome State Fault Refusal :=
  .next (s.drawByte.2.setV x (nn &&& s.drawByte.1))

end Sys2Proof.Machine
end

