-- ==== Sys2Proof/Machine/Operands.lean ====
section
/-! DEFINITION. The operand forms (30_encoding.md rule R72): addresses from NNN, the one addressing mode `I + k`, and the
multi-byte accesses built from single bytes (20_memory.md rules R53, R54). -/

namespace Sys2Proof.Machine

/-- NNN as a `PC` or `I` value, zero-extended (30_encoding.md rule R72). -/
def addrOf (nnn : Addr12) : Word := nnn.zeroExtend 16

/-- The address of byte `k` of a data access, before the reduction modulo 4096 of `memRead` and `memWrite`
(20_memory.md rule R56). -/
def State.dataAddr (s : State) (k : Nat) : Nat := s.i.toNat + k

/-- The register with number `k` of a register block (43_index_memory.md rules R144, R145). -/
def blockReg (k : Nat) : Nibble := BitVec.ofNat 4 k

/-- Store `V[0]`..`V[n-1]` at `I`, ascending (43_index_memory.md rule R144). -/
def State.storeBlock (s : State) : Nat → State
  | 0     => s
  | n + 1 => (s.storeBlock n).memWrite (s.dataAddr n) (s.getV (blockReg n))

/-- Load `V[0]`..`V[n-1]` from `I`, ascending (43_index_memory.md rule R145). -/
def State.loadBlock (s : State) : Nat → State
  | 0     => s
  | n + 1 => (s.loadBlock n).setV (blockReg n) (s.memRead (s.dataAddr n))

/-- The decimal digits of a byte: hundreds, tens, ones (43_index_memory.md rule R143). -/
def hundreds (b : Byte) : Byte := BitVec.ofNat 8 (b.toNat / 100)

/-- See `hundreds`. -/
def tens (b : Byte) : Byte := BitVec.ofNat 8 (b.toNat / 10 % 10)

/-- See `hundreds`. -/
def ones (b : Byte) : Byte := BitVec.ofNat 8 (b.toNat % 10)

/-- The address of a hexadecimal digit's glyph, five bytes a glyph (43_index_memory.md rule R142, 10_state.md rule R31). -/
def glyphAddr (b : Byte) : Word := BitVec.ofNat 16 (b.toNat % 16 * 5)

/-- The key number a byte selects, its low nibble (45_keys_timers.md rule R160, decision D12; log entry 13). -/
def keyOf (b : Byte) : Nibble := b.extractLsb' 0 4

/-- `KeyPressed(k)` (60_exceptions.md rule R198). -/
def State.keyPressed (s : State) (k : Nibble) : Bool := s.keys.getLsbD k.toNat

end Sys2Proof.Machine
end

