-- ==== Sys2Proof/Machine/ControlFlow.lean ====
section
/-! DEFINITION. Control flow (41_control_flow.md). `PC` is the post-fetch value in every meaning (10_state.md rule R24). -/

namespace Sys2Proof.Machine

/-- `00EE`, RET (rule R100): StackUnderflow is checked before anything changes. -/
def execRet (s : State) : Host.Outcome State Fault Refusal :=
  if s.sp = 0 then .next (s.raise .stackUnderflow) else .next (s.pop.setPc s.top)

/-- `1NNN`, JP (rule R101). -/
def execJp (nnn : Addr12) (s : State) : Host.Outcome State Fault Refusal := .next (s.setPc (addrOf nnn))

/-- `2NNN`, CALL (rule R102): StackOverflow is checked before anything changes (decision D2, log entry 7). -/
def execCall (nnn : Addr12) (s : State) : Host.Outcome State Fault Refusal :=
  if s.sp = 15 then .next (s.raise .stackOverflow) else .next ((s.push s.pc).setPc (addrOf nnn))

/-- `3XNN`, SE Vx, nn (rule R103). -/
def execSeImm (x : Nibble) (nn : Byte) (s : State) : Host.Outcome State Fault Refusal :=
  .next (s.skipIf (s.getV x == nn))

/-- `4XNN`, SNE Vx, nn (rule R104). -/
def execSneImm (x : Nibble) (nn : Byte) (s : State) : Host.Outcome State Fault Refusal :=
  .next (s.skipIf (s.getV x != nn))

/-- `5XY0`, SE Vx, Vy (rule R105). -/
def execSeReg (x y : Nibble) (s : State) : Host.Outcome State Fault Refusal :=
  .next (s.skipIf (s.getV x == s.getV y))

/-- `9XY0`, SNE Vx, Vy (rule R106). -/
def execSneReg (x y : Nibble) (s : State) : Host.Outcome State Fault Refusal :=
  .next (s.skipIf (s.getV x != s.getV y))

/-- `BNNN`, JP V0, nnn (rule R107): a 16-bit sum, not reduced modulo 4096 (decision D24, log entry 21). -/
def execJpV0 (nnn : Addr12) (s : State) : Host.Outcome State Fault Refusal :=
  .next (s.setPc (addrOf nnn + (s.getV 0).zeroExtend 16))

end Sys2Proof.Machine
end

