-- ==== Sys2Proof/Machine/DisplayUnit.lean ====
section
/-! DEFINITION. The display: clear and the XOR sprite compositor (44_display.md). -/

namespace Sys2Proof.Machine

/-- Column `c` of a sprite row byte: bit `7 - c`, the most significant bit leftmost (rule R151, decision D8; log entry 18). -/
def spriteBit (b : Byte) (c : Nat) : Bool := b.getLsbD (7 - c)

/-- The display column of sprite column `c` (rule R151). -/
def spriteCol (x0 : Byte) (c : Nat) : Fin 64 := ⟨(x0.toNat + c) % 64, Nat.mod_lt _ (by decide)⟩

/-- The display row of sprite row `r` (rule R151). -/
def spriteRow (y0 : Byte) (r : Nat) : Fin 32 := ⟨(y0.toNat + r) % 32, Nat.mod_lt _ (by decide)⟩

/-- The first `n` columns of one sprite row, XORed in from the left (rule R152). -/
def Display.drawRow (d : Display) (x0 y0 : Byte) (r : Nat) (b : Byte) : Nat → Display
  | 0     => d
  | c + 1 =>
    let d' := d.drawRow x0 y0 r b c
    if spriteBit b c then d'.toggle (spriteCol x0 c) (spriteRow y0 r) else d'

/-- Sprite row byte `r`: the byte at `I + r`, wrapping at the top of memory (rule R151, 20_memory.md rule R56; log entry
31). -/
def State.spriteByte (s : State) (r : Nat) : Byte := s.memRead (s.dataAddr r)

/-- The display after the first `n` rows of the sprite at `I` (rule R152). -/
def State.drawRows (s : State) (x0 y0 : Byte) : Nat → Display
  | 0     => s.disp
  | r + 1 => (s.drawRows x0 y0 r).drawRow x0 y0 r (s.spriteByte r) 8

/-- Does some set bit of the sprite meet a lit pixel? Used only where `DRAW_WRITES_VF` is set (rule R152, decision D4). -/
def State.spriteCollides (s : State) (x0 y0 : Byte) (n : Nat) : Bool :=
  (List.range n).any fun r => (List.range 8).any fun c =>
    spriteBit (s.spriteByte r) c && s.disp.pixel (spriteCol x0 c) (spriteRow y0 r)

/-- `VF` after a draw: untouched on this hardware (rule R152, conflict C5, decision D4; log entry 5). -/
def State.drawFlag (s : State) (collides : Bool) : State :=
  if Params.drawWritesVF then s.setV vf (flagByte collides) else s

/-- `00E0`, CLS (rule R150). -/
def execCls (s : State) : Host.Outcome State Fault Refusal := .next { s with disp := Display.blank }.present

/-- `DXYN`, DRW Vx, Vy, n (rule R152). -/
def execDrw (x y n : Nibble) (s : State) : Host.Outcome State Fault Refusal :=
  .next (({ s with disp := s.drawRows (s.getV x) (s.getV y) n.toNat }.drawFlag
    (s.spriteCollides (s.getV x) (s.getV y) n.toNat)).present)

end Sys2Proof.Machine
end

