-- ==== Sys2Proof/Machine/IndexMemory.lean ====
section
/-! DEFINITION. The index register, BCD, and register block store and load (43_index_memory.md). -/

namespace Sys2Proof.Machine

/-- `ANNN`, LD I, nnn (rule R140). -/
def execLdI (nnn : Addr12) (s : State) : Host.Outcome State Fault Refusal := .next (s.setI (addrOf nnn))

/-- `FX1E`, ADD I, Vx (rule R141): modulo 65536, no flag. -/
def execAddI (x : Nibble) (s : State) : Host.Outcome State Fault Refusal :=
  .next (s.setI (s.i + (s.getV x).zeroExtend 16))

/-- `FX29`, LD F, Vx (rule R142). -/
def execLdF (x : Nibble) (s : State) : Host.Outcome State Fault Refusal := .next (s.setI (glyphAddr (s.getV x)))

/-- `FX33`, LD B, Vx (rule R143): hundreds, tens, ones at ascending addresses. -/
def execLdB (x : Nibble) (s : State) : Host.Outcome State Fault Refusal :=
  .next (((s.memWrite (s.dataAddr 0) (hundreds (s.getV x))).memWrite (s.dataAddr 1) (tens (s.getV x))).memWrite
    (s.dataAddr 2) (ones (s.getV x)))

/-- `FX55`, LD [I], Vx (rule R144): `V[0]`..`V[X]`, X included; `I` is kept. -/
def execLdMemVx (x : Nibble) (s : State) : Host.Outcome State Fault Refusal := .next (s.storeBlock (x.toNat + 1))

/-- `FX65`, LD Vx, [I] (rule R145): `V[0]`..`V[X]`, X included; `I` is kept. -/
def execLdVxMem (x : Nibble) (s : State) : Host.Outcome State Fault Refusal := .next (s.loadBlock (x.toNat + 1))

end Sys2Proof.Machine
end

