-- ==== Sys2Proof/Machine/KeysTimers.lean ====
section
/-! DEFINITION. Key skips, the countdown timer instructions and the two placeholder forms (45_keys_timers.md). -/

namespace Sys2Proof.Machine

/-- `EX9E`, SKP Vx (rule R160). -/
def execSkp (x : Nibble) (s : State) : Host.Outcome State Fault Refusal :=
  .next (s.skipIf (s.keyPressed (keyOf (s.getV x))))

/-- `EXA1`, SKNP Vx (rule R161). -/
def execSknp (x : Nibble) (s : State) : Host.Outcome State Fault Refusal :=
  .next (s.skipIf (!s.keyPressed (keyOf (s.getV x))))

/-- `FX07`, LD Vx, DT (rule R162). -/
def execLdVxDt (x : Nibble) (s : State) : Host.Outcome State Fault Refusal := .next (s.setV x s.dt)

/-- `FX15`, LD DT, Vx (rule R164). -/
def execLdDtVx (x : Nibble) (s : State) : Host.Outcome State Fault Refusal := .next (s.setDt (s.getV x))

/-- `FX0A`, LD Vx, K (rule R163, conflict C10): the placeholder does nothing. -/
def execLdVxK (_x : Nibble) (s : State) : Host.Outcome State Fault Refusal := .next s

/-- `FX18`, LD ST, Vx (rule R165): the placeholder does nothing. -/
def execLdStVx (_x : Nibble) (s : State) : Host.Outcome State Fault Refusal := .next s

end Sys2Proof.Machine
end

