-- ==== Sys2Proof/Machine/Unrecognised.lean ====
section
/-! DEFINITION. The no-operation fallback (46_unrecognised.md): one meaning per NOP row of spec/opcode_table.json, each over
the one shared operation `recovered`. The fetch has already advanced `PC` (rule R176). -/

namespace Sys2Proof.Machine

/-- UnrecognizedSubopcode is raised and recovered as a no-op (rule R176, 60_exceptions.md rule R185). -/
def recovered (s : State) : Host.Outcome State Fault Refusal := .next (s.raise .unrecognizedSubopcode)

/-- NOP_0_01, the words `000000000-------` (rule R170). -/
def execNop001 (_w : Word) (s : State) : Host.Outcome State Fault Refusal := recovered s

/-- NOP_0_02, the words `0000000010------` (rule R170). -/
def execNop002 (_w : Word) (s : State) : Host.Outcome State Fault Refusal := recovered s

/-- NOP_0_03, the words `00000000110-----` (rule R170). -/
def execNop003 (_w : Word) (s : State) : Host.Outcome State Fault Refusal := recovered s

/-- NOP_0_04, the words `0000000011100001` (rule R170). -/
def execNop004 (_w : Word) (s : State) : Host.Outcome State Fault Refusal := recovered s

/-- NOP_0_05, the words `000000001110001-` (rule R170). -/
def execNop005 (_w : Word) (s : State) : Host.Outcome State Fault Refusal := recovered s

/-- NOP_0_06, the words `00000000111001--` (rule R170). -/
def execNop006 (_w : Word) (s : State) : Host.Outcome State Fault Refusal := recovered s

/-- NOP_0_07, the words `00000000111010--` (rule R170). -/
def execNop007 (_w : Word) (s : State) : Host.Outcome State Fault Refusal := recovered s

/-- NOP_0_08, the words `000000001110110-` (rule R170). -/
def execNop008 (_w : Word) (s : State) : Host.Outcome State Fault Refusal := recovered s

/-- NOP_0_09, the words `0000000011101111` (rule R170). -/
def execNop009 (_w : Word) (s : State) : Host.Outcome State Fault Refusal := recovered s

/-- NOP_0_10, the words `000000001111----` (rule R170). -/
def execNop010 (_w : Word) (s : State) : Host.Outcome State Fault Refusal := recovered s

/-- NOP_0_11, the words `00000001--------` (rule R170). -/
def execNop011 (_w : Word) (s : State) : Host.Outcome State Fault Refusal := recovered s

/-- NOP_0_12, the words `0000001---------` (rule R170). -/
def execNop012 (_w : Word) (s : State) : Host.Outcome State Fault Refusal := recovered s

/-- NOP_0_13, the words `000001----------` (rule R170). -/
def execNop013 (_w : Word) (s : State) : Host.Outcome State Fault Refusal := recovered s

/-- NOP_0_14, the words `00001-----------` (rule R170). -/
def execNop014 (_w : Word) (s : State) : Host.Outcome State Fault Refusal := recovered s

/-- NOP_5_01, the words `0101--------0001` (rule R171). -/
def execNop501 (_w : Word) (s : State) : Host.Outcome State Fault Refusal := recovered s

/-- NOP_5_02, the words `0101--------001-` (rule R171). -/
def execNop502 (_w : Word) (s : State) : Host.Outcome State Fault Refusal := recovered s

/-- NOP_5_03, the words `0101--------01--` (rule R171). -/
def execNop503 (_w : Word) (s : State) : Host.Outcome State Fault Refusal := recovered s

/-- NOP_5_04, the words `0101--------1---` (rule R171). -/
def execNop504 (_w : Word) (s : State) : Host.Outcome State Fault Refusal := recovered s

/-- NOP_9_01, the words `1001--------0001` (rule R173). -/
def execNop901 (_w : Word) (s : State) : Host.Outcome State Fault Refusal := recovered s

/-- NOP_9_02, the words `1001--------001-` (rule R173). -/
def execNop902 (_w : Word) (s : State) : Host.Outcome State Fault Refusal := recovered s

/-- NOP_9_03, the words `1001--------01--` (rule R173). -/
def execNop903 (_w : Word) (s : State) : Host.Outcome State Fault Refusal := recovered s

/-- NOP_9_04, the words `1001--------1---` (rule R173). -/
def execNop904 (_w : Word) (s : State) : Host.Outcome State Fault Refusal := recovered s

/-- NOP_8_01, the words `1000--------10--` (rule R172). -/
def execNop801 (_w : Word) (s : State) : Host.Outcome State Fault Refusal := recovered s

/-- NOP_8_02, the words `1000--------110-` (rule R172). -/
def execNop802 (_w : Word) (s : State) : Host.Outcome State Fault Refusal := recovered s

/-- NOP_8_03, the words `1000--------1111` (rule R172). -/
def execNop803 (_w : Word) (s : State) : Host.Outcome State Fault Refusal := recovered s

/-- NOP_E_01, the words `1110----0-------` (rule R174). -/
def execNopE01 (_w : Word) (s : State) : Host.Outcome State Fault Refusal := recovered s

/-- NOP_E_02, the words `1110----1000----` (rule R174). -/
def execNopE02 (_w : Word) (s : State) : Host.Outcome State Fault Refusal := recovered s

/-- NOP_E_03, the words `1110----10010---` (rule R174). -/
def execNopE03 (_w : Word) (s : State) : Host.Outcome State Fault Refusal := recovered s

/-- NOP_E_04, the words `1110----100110--` (rule R174). -/
def execNopE04 (_w : Word) (s : State) : Host.Outcome State Fault Refusal := recovered s

/-- NOP_E_05, the words `1110----1001110-` (rule R174). -/
def execNopE05 (_w : Word) (s : State) : Host.Outcome State Fault Refusal := recovered s

/-- NOP_E_06, the words `1110----10011111` (rule R174). -/
def execNopE06 (_w : Word) (s : State) : Host.Outcome State Fault Refusal := recovered s

/-- NOP_E_07, the words `1110----10100000` (rule R174). -/
def execNopE07 (_w : Word) (s : State) : Host.Outcome State Fault Refusal := recovered s

/-- NOP_E_08, the words `1110----1010001-` (rule R174). -/
def execNopE08 (_w : Word) (s : State) : Host.Outcome State Fault Refusal := recovered s

/-- NOP_E_09, the words `1110----101001--` (rule R174). -/
def execNopE09 (_w : Word) (s : State) : Host.Outcome State Fault Refusal := recovered s

/-- NOP_E_10, the words `1110----10101---` (rule R174). -/
def execNopE10 (_w : Word) (s : State) : Host.Outcome State Fault Refusal := recovered s

/-- NOP_E_11, the words `1110----1011----` (rule R174). -/
def execNopE11 (_w : Word) (s : State) : Host.Outcome State Fault Refusal := recovered s

/-- NOP_E_12, the words `1110----11------` (rule R174). -/
def execNopE12 (_w : Word) (s : State) : Host.Outcome State Fault Refusal := recovered s

/-- NOP_F_01, the words `1111----000000--` (rule R175). -/
def execNopF01 (_w : Word) (s : State) : Host.Outcome State Fault Refusal := recovered s

/-- NOP_F_02, the words `1111----0000010-` (rule R175). -/
def execNopF02 (_w : Word) (s : State) : Host.Outcome State Fault Refusal := recovered s

/-- NOP_F_03, the words `1111----00000110` (rule R175). -/
def execNopF03 (_w : Word) (s : State) : Host.Outcome State Fault Refusal := recovered s

/-- NOP_F_04, the words `1111----0000100-` (rule R175). -/
def execNopF04 (_w : Word) (s : State) : Host.Outcome State Fault Refusal := recovered s

/-- NOP_F_05, the words `1111----00001011` (rule R175). -/
def execNopF05 (_w : Word) (s : State) : Host.Outcome State Fault Refusal := recovered s

/-- NOP_F_06, the words `1111----000011--` (rule R175). -/
def execNopF06 (_w : Word) (s : State) : Host.Outcome State Fault Refusal := recovered s

/-- NOP_F_07, the words `1111----000100--` (rule R175). -/
def execNopF07 (_w : Word) (s : State) : Host.Outcome State Fault Refusal := recovered s

/-- NOP_F_08, the words `1111----00010100` (rule R175). -/
def execNopF08 (_w : Word) (s : State) : Host.Outcome State Fault Refusal := recovered s

/-- NOP_F_09, the words `1111----0001011-` (rule R175). -/
def execNopF09 (_w : Word) (s : State) : Host.Outcome State Fault Refusal := recovered s

/-- NOP_F_10, the words `1111----00011001` (rule R175). -/
def execNopF10 (_w : Word) (s : State) : Host.Outcome State Fault Refusal := recovered s

/-- NOP_F_11, the words `1111----0001101-` (rule R175). -/
def execNopF11 (_w : Word) (s : State) : Host.Outcome State Fault Refusal := recovered s

/-- NOP_F_12, the words `1111----0001110-` (rule R175). -/
def execNopF12 (_w : Word) (s : State) : Host.Outcome State Fault Refusal := recovered s

/-- NOP_F_13, the words `1111----00011111` (rule R175). -/
def execNopF13 (_w : Word) (s : State) : Host.Outcome State Fault Refusal := recovered s

/-- NOP_F_14, the words `1111----00100---` (rule R175). -/
def execNopF14 (_w : Word) (s : State) : Host.Outcome State Fault Refusal := recovered s

/-- NOP_F_15, the words `1111----00101000` (rule R175). -/
def execNopF15 (_w : Word) (s : State) : Host.Outcome State Fault Refusal := recovered s

/-- NOP_F_16, the words `1111----0010101-` (rule R175). -/
def execNopF16 (_w : Word) (s : State) : Host.Outcome State Fault Refusal := recovered s

/-- NOP_F_17, the words `1111----001011--` (rule R175). -/
def execNopF17 (_w : Word) (s : State) : Host.Outcome State Fault Refusal := recovered s

/-- NOP_F_18, the words `1111----0011000-` (rule R175). -/
def execNopF18 (_w : Word) (s : State) : Host.Outcome State Fault Refusal := recovered s

/-- NOP_F_19, the words `1111----00110010` (rule R175). -/
def execNopF19 (_w : Word) (s : State) : Host.Outcome State Fault Refusal := recovered s

/-- NOP_F_20, the words `1111----001101--` (rule R175). -/
def execNopF20 (_w : Word) (s : State) : Host.Outcome State Fault Refusal := recovered s

/-- NOP_F_21, the words `1111----00111---` (rule R175). -/
def execNopF21 (_w : Word) (s : State) : Host.Outcome State Fault Refusal := recovered s

/-- NOP_F_22, the words `1111----0100----` (rule R175). -/
def execNopF22 (_w : Word) (s : State) : Host.Outcome State Fault Refusal := recovered s

/-- NOP_F_23, the words `1111----010100--` (rule R175). -/
def execNopF23 (_w : Word) (s : State) : Host.Outcome State Fault Refusal := recovered s

/-- NOP_F_24, the words `1111----01010100` (rule R175). -/
def execNopF24 (_w : Word) (s : State) : Host.Outcome State Fault Refusal := recovered s

/-- NOP_F_25, the words `1111----0101011-` (rule R175). -/
def execNopF25 (_w : Word) (s : State) : Host.Outcome State Fault Refusal := recovered s

/-- NOP_F_26, the words `1111----01011---` (rule R175). -/
def execNopF26 (_w : Word) (s : State) : Host.Outcome State Fault Refusal := recovered s

/-- NOP_F_27, the words `1111----011000--` (rule R175). -/
def execNopF27 (_w : Word) (s : State) : Host.Outcome State Fault Refusal := recovered s

/-- NOP_F_28, the words `1111----01100100` (rule R175). -/
def execNopF28 (_w : Word) (s : State) : Host.Outcome State Fault Refusal := recovered s

/-- NOP_F_29, the words `1111----0110011-` (rule R175). -/
def execNopF29 (_w : Word) (s : State) : Host.Outcome State Fault Refusal := recovered s

/-- NOP_F_30, the words `1111----01101---` (rule R175). -/
def execNopF30 (_w : Word) (s : State) : Host.Outcome State Fault Refusal := recovered s

/-- NOP_F_31, the words `1111----0111----` (rule R175). -/
def execNopF31 (_w : Word) (s : State) : Host.Outcome State Fault Refusal := recovered s

/-- NOP_F_32, the words `1111----1-------` (rule R175). -/
def execNopF32 (_w : Word) (s : State) : Host.Outcome State Fault Refusal := recovered s

end Sys2Proof.Machine
end

