-- ==== Sys2Proof/Machine/Dispatch.lean ====
section
/-! DEFINITION. The dispatch: one arm per constructor of Instr, each one direct call of its meaning (40_fetch_decode_execute.md
rule R93). The state is the post-fetch state (10_state.md rule R24). -/

namespace Sys2Proof.Machine

def exec (i : Instr) (s : State) : Host.Outcome State Fault Refusal :=
  match i with
  | .cls => Sys2Proof.Machine.execCls s
  | .ret => Sys2Proof.Machine.execRet s
  | .jp nnn => Sys2Proof.Machine.execJp nnn s
  | .call nnn => Sys2Proof.Machine.execCall nnn s
  | .seImm x nn => Sys2Proof.Machine.execSeImm x nn s
  | .sneImm x nn => Sys2Proof.Machine.execSneImm x nn s
  | .seReg x y => Sys2Proof.Machine.execSeReg x y s
  | .sneReg x y => Sys2Proof.Machine.execSneReg x y s
  | .ldImm x nn => Sys2Proof.Machine.execLdImm x nn s
  | .addImm x nn => Sys2Proof.Machine.execAddImm x nn s
  | .ldReg x y => Sys2Proof.Machine.execLdReg x y s
  | .orReg x y => Sys2Proof.Machine.execOrReg x y s
  | .andReg x y => Sys2Proof.Machine.execAndReg x y s
  | .xorReg x y => Sys2Proof.Machine.execXorReg x y s
  | .addReg x y => Sys2Proof.Machine.execAddReg x y s
  | .sub x y => Sys2Proof.Machine.execSub x y s
  | .shr x y => Sys2Proof.Machine.execShr x y s
  | .subn x y => Sys2Proof.Machine.execSubn x y s
  | .shl x y => Sys2Proof.Machine.execShl x y s
  | .ldI nnn => Sys2Proof.Machine.execLdI nnn s
  | .jpV0 nnn => Sys2Proof.Machine.execJpV0 nnn s
  | .rnd x nn => Sys2Proof.Machine.execRnd x nn s
  | .drw x y n => Sys2Proof.Machine.execDrw x y n s
  | .skp x => Sys2Proof.Machine.execSkp x s
  | .sknp x => Sys2Proof.Machine.execSknp x s
  | .ldVxDt x => Sys2Proof.Machine.execLdVxDt x s
  | .ldDtVx x => Sys2Proof.Machine.execLdDtVx x s
  | .ldVxK x => Sys2Proof.Machine.execLdVxK x s
  | .ldStVx x => Sys2Proof.Machine.execLdStVx x s
  | .addI x => Sys2Proof.Machine.execAddI x s
  | .ldF x => Sys2Proof.Machine.execLdF x s
  | .ldB x => Sys2Proof.Machine.execLdB x s
  | .ldMemVx x => Sys2Proof.Machine.execLdMemVx x s
  | .ldVxMem x => Sys2Proof.Machine.execLdVxMem x s
  | .nop001 w => Sys2Proof.Machine.execNop001 w s
  | .nop002 w => Sys2Proof.Machine.execNop002 w s
  | .nop003 w => Sys2Proof.Machine.execNop003 w s
  | .nop004 w => Sys2Proof.Machine.execNop004 w s
  | .nop005 w => Sys2Proof.Machine.execNop005 w s
  | .nop006 w => Sys2Proof.Machine.execNop006 w s
  | .nop007 w => Sys2Proof.Machine.execNop007 w s
  | .nop008 w => Sys2Proof.Machine.execNop008 w s
  | .nop009 w => Sys2Proof.Machine.execNop009 w s
  | .nop010 w => Sys2Proof.Machine.execNop010 w s
  | .nop011 w => Sys2Proof.Machine.execNop011 w s
  | .nop012 w => Sys2Proof.Machine.execNop012 w s
  | .nop013 w => Sys2Proof.Machine.execNop013 w s
  | .nop014 w => Sys2Proof.Machine.execNop014 w s
  | .nop501 w => Sys2Proof.Machine.execNop501 w s
  | .nop502 w => Sys2Proof.Machine.execNop502 w s
  | .nop503 w => Sys2Proof.Machine.execNop503 w s
  | .nop504 w => Sys2Proof.Machine.execNop504 w s
  | .nop901 w => Sys2Proof.Machine.execNop901 w s
  | .nop902 w => Sys2Proof.Machine.execNop902 w s
  | .nop903 w => Sys2Proof.Machine.execNop903 w s
  | .nop904 w => Sys2Proof.Machine.execNop904 w s
  | .nop801 w => Sys2Proof.Machine.execNop801 w s
  | .nop802 w => Sys2Proof.Machine.execNop802 w s
  | .nop803 w => Sys2Proof.Machine.execNop803 w s
  | .nopE01 w => Sys2Proof.Machine.execNopE01 w s
  | .nopE02 w => Sys2Proof.Machine.execNopE02 w s
  | .nopE03 w => Sys2Proof.Machine.execNopE03 w s
  | .nopE04 w => Sys2Proof.Machine.execNopE04 w s
  | .nopE05 w => Sys2Proof.Machine.execNopE05 w s
  | .nopE06 w => Sys2Proof.Machine.execNopE06 w s
  | .nopE07 w => Sys2Proof.Machine.execNopE07 w s
  | .nopE08 w => Sys2Proof.Machine.execNopE08 w s
  | .nopE09 w => Sys2Proof.Machine.execNopE09 w s
  | .nopE10 w => Sys2Proof.Machine.execNopE10 w s
  | .nopE11 w => Sys2Proof.Machine.execNopE11 w s
  | .nopE12 w => Sys2Proof.Machine.execNopE12 w s
  | .nopF01 w => Sys2Proof.Machine.execNopF01 w s
  | .nopF02 w => Sys2Proof.Machine.execNopF02 w s
  | .nopF03 w => Sys2Proof.Machine.execNopF03 w s
  | .nopF04 w => Sys2Proof.Machine.execNopF04 w s
  | .nopF05 w => Sys2Proof.Machine.execNopF05 w s
  | .nopF06 w => Sys2Proof.Machine.execNopF06 w s
  | .nopF07 w => Sys2Proof.Machine.execNopF07 w s
  | .nopF08 w => Sys2Proof.Machine.execNopF08 w s
  | .nopF09 w => Sys2Proof.Machine.execNopF09 w s
  | .nopF10 w => Sys2Proof.Machine.execNopF10 w s
  | .nopF11 w => Sys2Proof.Machine.execNopF11 w s
  | .nopF12 w => Sys2Proof.Machine.execNopF12 w s
  | .nopF13 w => Sys2Proof.Machine.execNopF13 w s
  | .nopF14 w => Sys2Proof.Machine.execNopF14 w s
  | .nopF15 w => Sys2Proof.Machine.execNopF15 w s
  | .nopF16 w => Sys2Proof.Machine.execNopF16 w s
  | .nopF17 w => Sys2Proof.Machine.execNopF17 w s
  | .nopF18 w => Sys2Proof.Machine.execNopF18 w s
  | .nopF19 w => Sys2Proof.Machine.execNopF19 w s
  | .nopF20 w => Sys2Proof.Machine.execNopF20 w s
  | .nopF21 w => Sys2Proof.Machine.execNopF21 w s
  | .nopF22 w => Sys2Proof.Machine.execNopF22 w s
  | .nopF23 w => Sys2Proof.Machine.execNopF23 w s
  | .nopF24 w => Sys2Proof.Machine.execNopF24 w s
  | .nopF25 w => Sys2Proof.Machine.execNopF25 w s
  | .nopF26 w => Sys2Proof.Machine.execNopF26 w s
  | .nopF27 w => Sys2Proof.Machine.execNopF27 w s
  | .nopF28 w => Sys2Proof.Machine.execNopF28 w s
  | .nopF29 w => Sys2Proof.Machine.execNopF29 w s
  | .nopF30 w => Sys2Proof.Machine.execNopF30 w s
  | .nopF31 w => Sys2Proof.Machine.execNopF31 w s
  | .nopF32 w => Sys2Proof.Machine.execNopF32 w s

end Sys2Proof.Machine
end

