-- ==== Sys2Proof/Machine/Cycle.lean ====
section
/-! DEFINITION. The CPU step (40_fetch_decode_execute.md rule R90): fetch, advance, decode, execute, present. -/

namespace Sys2Proof.Machine

/-- The word at `PC`, big-endian, with no reduction of `PC` (20_memory.md rule R50, 40_fetch_decode_execute.md rule R91). -/
def State.fetchWord (s : State) : Word := wordOfBytes (s.mem.read s.pc.toNat) (s.mem.read (s.pc.toNat + 1))

/-- Does a fetch raise EndOfProgram (rule R91)? -/
def State.atEnd (s : State) : Bool := decide (Params.fetchLimit ≤ s.pc.toNat)

/-- The end of a CPU step: if execution did not raise, the grid is presented (rule R95) and the loop goes back to its poll
(rule R94); if it did, nothing more happens (60_exceptions.md rule R184). -/
def State.finish (s : State) : State :=
  match s.status with
  | .running   => { s.present with phase := .poll }
  | .ended     => s
  | .faulted _ => s
  | .quit      => s

/-- `finish` on the state an instruction leaves. -/
def finishOutcome : Host.Outcome State Fault Refusal → Host.Outcome State Fault Refusal
  | .next t    => .next t.finish
  | .fault f   => .fault f
  | .refused r => .refused r

/-- One CPU step (rule R90). -/
def cpuStep (s : State) : Host.Outcome State Fault Refusal :=
  if s.atEnd then .next (s.raise .endOfProgram) else finishOutcome (exec (decode s.fetchWord) s.advance)

end Sys2Proof.Machine
end

