-- ==== Sys2Proof/Machine/Load.lean ====
section
/-! DEFINITION. Loading a program image (60_exceptions.md rule R200, 70_reset_and_hazards.md rules R210 to R213). -/

namespace Sys2Proof.Machine

/-- Why there is no reset state for an image (70_reset_and_hazards.md rule R212, decision D16; log entry 17). -/
inductive LoadError where
  /-- The image is longer than 3584 bytes. Safe: there is no machine. -/
  | imageTooLong
deriving DecidableEq, Repr

/-- Write bytes at consecutive addresses from `a`. -/
def Memory.writeList (m : Memory) (a : Nat) : List Byte → Memory
  | []      => m
  | b :: bs => Memory.writeList (m.write a b) (a + 1) bs

/-- Reset with a program image at 0x200 (rule R212). `State.reset` is reset with the empty image. -/
def loadImage (image : List Byte) : Except LoadError State :=
  if image.length ≤ Config.romMax then
    .ok { State.reset with mem := State.reset.mem.writeList Config.progBase image }
  else .error .imageTooLong

/-- Store an instruction word at `PC`, high byte first, and make the CPU step that fetches it the very next step: the machine
is running, the host has been polled, no tick is due, and a `PC` from which nothing can be fetched is put back to the program
base. -/
def State.placeWord (s : State) (w : Word) : State :=
  let pc : Word := if Params.fetchLimit ≤ s.pc.toNat then BitVec.ofNat 16 Config.progBase else s.pc
  { s with
    pc       := pc
    mem      := s.mem.writeList pc.toNat [w.extractLsb' 8 8, w.extractLsb' 0 8]
    status   := .running
    phase    := .run
    ticksDue := 0 }

end Sys2Proof.Machine
end

