-- ==== Sys2Proof/Machine/Step.lean ====
section
/-! DEFINITION. One step of the machine: whichever agent moves next (40_fetch_decode_execute.md rule R94), and no step once
`STATUS` is not RUNNING (rule R90, 10_state.md rule R35). -/

namespace Sys2Proof.Machine

/-- One step. In the phase `poll` the host moves. In the phase `run` the ticks that are due come first, one a step, and then
the CPU step (60_exceptions.md rule R187). A stopped machine takes no step. -/
def step (s : State) : Host.Outcome State Fault Refusal :=
  match s.status with
  | .running =>
    match s.phase with
    | .poll => .next (hostStep s)
    | .run  => if s.ticksDue = 0 then cpuStep s else .next (tickStep s)
  | .ended                   => .fault .ended
  | .faulted .stackUnderflow => .fault .stackUnderflow
  | .faulted .stackOverflow  => .fault .stackOverflow
  | .quit                    => .fault .quit

/-- The state with an instruction word stored where the very next step fetches it (log entry 17). Bits of `w` from `nbits` up
are 0. -/
def State.withFetchWord (s : State) (nbits w : Nat) : State := s.placeWord (BitVec.ofNat 16 (w % 2 ^ nbits))

end Sys2Proof.Machine
end

