-- ==== Sys2Proof/Safety.lean ====
section
/-! DEFINITION. The terms claims use: what a step leaves unchanged, which instruction a state runs next, the invariants, how a
run may end, and the fairness premise on ticks. -/

namespace Sys2Proof.Machine

/-- The parts of the state, one for each field of `State`. -/
inductive Part where
  | v | i | pc | stack | sp | mem | disp | dt | status
  | keys | ticksDue | shown | presents | phase | polls | draws
deriving DecidableEq, Repr

/-- The part reads the same in both states: each register, each stack slot, each byte of memory, each pixel. -/
def Part.same (s t : State) : Part → Prop
  | .v        => ∀ r, t.getV r = s.getV r
  | .i        => t.i = s.i
  | .pc       => t.pc = s.pc
  | .stack    => ∀ k : Fin 16, t.stack[k] = s.stack[k]
  | .sp       => t.sp = s.sp
  | .mem      => ∀ a, t.mem.read a = s.mem.read a
  | .disp     => ∀ x y, t.disp.pixel x y = s.disp.pixel x y
  | .dt       => t.dt = s.dt
  | .status   => t.status = s.status
  | .keys     => t.keys = s.keys
  | .ticksDue => t.ticksDue = s.ticksDue
  | .shown    => ∀ x y, t.shown.pixel x y = s.shown.pixel x y
  | .presents => t.presents = s.presents
  | .phase    => t.phase = s.phase
  | .polls    => t.polls = s.polls
  | .draws    => t.draws = s.draws

/-- The frame: every part but those listed is unchanged from `s` to `t`. -/
def OnlyChanges (ps : List Part) (s t : State) : Prop := ∀ p, p ∉ ps → p.same s t

/-- Every general register but `V[x]` is unchanged. -/
def OnlyV (x : Nibble) (s t : State) : Prop := ∀ r, r ≠ x → t.getV r = s.getV r

/-- The next step is a CPU step (40_fetch_decode_execute.md rule R90, 60_exceptions.md rule R187): the machine runs, the host
has been polled and no tick is due. -/
def State.cpuNext (s : State) : Prop := s.status = .running ∧ s.phase = .run ∧ s.ticksDue = 0

/-- The next step executes the instruction `i`. -/
def State.runsNext (s : State) (i : Instr) : Prop := s.cpuNext ∧ s.atEnd = false ∧ decode s.fetchWord = i

/-- The memory invariant: the canonical form. -/
def State.MemInv (s : State) : Prop := s.mem.wf

/-- The control invariant (10_state.md rules R26, R29): `PC` is at most 0x10FE, every return address held lies in
0x0002..0x0FFF, and slot 0 is as reset left it. -/
def State.ControlInv (s : State) : Prop :=
  s.pc.toNat ≤ 0x10FE ∧
  (∀ k : Fin 16, 0 < k.val → k.val ≤ s.sp.val → 0x0002 ≤ s.stack[k].toNat ∧ s.stack[k].toNat ≤ 0x0FFF) ∧
  s.stack[0] = 0

/-- The presentation invariant (40_fetch_decode_execute.md rule R97): the grid last presented is the display. -/
def State.ShownInv (s : State) : Prop := s.shown = s.disp

/-- The run has ended cleanly (60_exceptions.md rule R202): a postcondition is claimed of such a state only, never of one
whose `STATUS` is FAULTED (rule R184). -/
def State.endedCleanly (s : State) : Prop := s.status = .ended ∨ s.status = .quit

/-- The fairness premise on the tick agent (60_exceptions.md rule R194 c), for a claim that needs a tick to come. -/
def FairTicks : Prop := ∀ n, ∃ m, n ≤ m ∧ 0 < Config.ticksDelivered m

end Sys2Proof.Machine
end

