-- ==== Sys2Proof/Certificates/Slice0/Obligations.lean ====
section
/-! DEFINITION. The statements for the provers. A docstring names the rule a statement formalises; where a statement rests on a
choice that the spec marks as its own decision or inference, or that the model made, the docstring names it. -/

namespace Sys2Proof.Machine

/-- The parts an instruction may change (10_state.md rules R23, R25, R27 to R29, R33, R34; 20_memory.md rule R53). The model's
random-byte index moves with `CXNN`, and a presentation with the two display instructions. -/
def mayChange : Instr → List Part
  | .cls | .drw _ _ _ => [.disp, .shown, .presents]
  | .ret => [.pc, .sp, .status]
  | .call _ => [.pc, .sp, .stack, .status]
  | .jp _ | .jpV0 _ | .seImm _ _ | .sneImm _ _ | .seReg _ _ | .sneReg _ _ | .skp _ | .sknp _ => [.pc]
  | .ldImm _ _ | .addImm _ _ | .ldReg _ _ | .orReg _ _ | .andReg _ _ | .xorReg _ _ | .addReg _ _ | .sub _ _ | .shr _ _
  | .subn _ _ | .shl _ _ | .ldVxDt _ | .ldVxMem _ => [.v]
  | .rnd _ _ => [.v, .draws]
  | .ldI _ | .addI _ | .ldF _ => [.i]
  | .ldB _ | .ldMemVx _ => [.mem]
  | .ldDtVx _ => [.dt]
  | _ => []

/-- May the instruction write the register (10_state.md rule R23, the column "writes")? -/
def mayWrite (r : Nibble) : Instr → Bool
  | .ldImm x _ | .addImm x _ | .ldReg x _ | .orReg x _ | .andReg x _ | .xorReg x _ | .rnd x _ | .ldVxDt x => r == x
  | .addReg x _ | .sub x _ | .subn x _ | .shr x _ | .shl x _ => r == x || r == vf
  | .ldVxMem x => decide (r ≤ x)
  | _ => false

/-- `PC` after an instruction, `pc` being the post-fetch value and `s` the state it runs in (10_state.md rule R25): the
overriding instructions, and the post-fetch value for every other word. A stack fault leaves the post-fetch value. -/
def pcAfter (pc : Word) (s : State) : Instr → Word
  | .jp nnn => nnn.zeroExtend 16
  | .jpV0 nnn => nnn.zeroExtend 16 + (s.getV 0).zeroExtend 16
  | .call nnn => if s.sp = 15 then pc else nnn.zeroExtend 16
  | .ret => if s.sp = 0 then pc else s.stack[s.sp]
  | .seImm x nn => if s.getV x = nn then pc + 2 else pc
  | .sneImm x nn => if s.getV x ≠ nn then pc + 2 else pc
  | .seReg x y => if s.getV x = s.getV y then pc + 2 else pc
  | .sneReg x y => if s.getV x ≠ s.getV y then pc + 2 else pc
  | .skp x => if s.keys.getLsbD ((s.getV x).toNat % 16) then pc + 2 else pc
  | .sknp x => if s.keys.getLsbD ((s.getV x).toNat % 16) then pc else pc + 2
  | _ => pc

/-- Is the cell (`x`, `y`) covered by a set bit of the `n`-row sprite at `I` drawn at (`x0`, `y0`)? The sprite column and row
that land on the cell are computed back from it (44_display.md rule R151). -/
def covers (s : State) (x0 y0 : Byte) (n : Nat) (x : Fin 64) (y : Fin 32) : Bool :=
  let c := (x.val + 256 - x0.toNat) % 64
  let r := (y.val + 256 - y0.toNat) % 32
  decide (c < 8) && decide (r < n) && (s.mem.read ((s.i.toNat + r) % 4096)).getLsbD (7 - c)

/-- The words of the 34 forms, read off the family map (30_encoding.md rule R74). -/
def familyMap (w : Word) : Bool :=
  let nibble := w.toNat % 16
  let low := w.toNat % 256
  match w.toNat / 4096 with
  | 0x0 => w == 0x00E0 || w == 0x00EE
  | 0x5 => nibble == 0
  | 0x8 => decide (nibble ≤ 7) || nibble == 0xE
  | 0x9 => nibble == 0
  | 0xE => low == 0x9E || low == 0xA1
  | 0xF => [0x07, 0x0A, 0x15, 0x18, 0x1E, 0x29, 0x33, 0x55, 0x65].contains low
  | _ => true

/-- The state with another display, and another grid shown to the host. -/
def State.withDisplay (s : State) (d e : Display) : State := { s with disp := d, shown := e }

/-- The two outcomes agree in everything but the display and the grid shown. -/
def AgreeButDisplay : Host.Outcome State Fault Refusal → Host.Outcome State Fault Refusal → Prop
  | .next t, .next u => ∃ d e, u = t.withDisplay d e
  | .fault f, .fault g => f = g
  | .refused p, .refused q => p = q
  | _, _ => False

/-- An unrecognised word: it decodes to no form, and running it changes nothing (46_unrecognised.md rule R176). -/
def NoOperation (w : Word) : Prop := (decode w).recognised = false ∧ ∀ s, exec (decode w) s = .next s

end Sys2Proof.Machine

open Sys2Proof Sys2Proof.Machine

/-! ### Encoding -/

/-- 30_encoding.md rule R76: words written out from the table's patterns, with the operands the fields of rule R72 give; and three
no-operation words. Two of these, 0x01E0 and 0x5121, are near misses that rule R75 makes no-operations by the spec's decision D14
(log entry 22). Families 4, 6 and B have no word here. -/
def Obligations.DecodeSampleWords : Prop :=
  decode 0x00E0 = .cls ∧ decode 0x00EE = .ret ∧ decode 0x1234 = .jp 0x234 ∧ decode 0x2210 = .call 0x210 ∧
  decode 0x3A2F = .seImm 0xA 0x2F ∧ decode 0x9120 = .sneReg 1 2 ∧ decode 0x7302 = .addImm 3 0x02 ∧
  decode 0x8125 = .sub 1 2 ∧ decode 0x812E = .shl 1 2 ∧ decode 0xA300 = .ldI 0x300 ∧ decode 0xC10F = .rnd 1 0x0F ∧
  decode 0xD015 = .drw 0 1 5 ∧ decode 0xE59E = .skp 5 ∧ decode 0xF215 = .ldDtVx 2 ∧ decode 0xF465 = .ldVxMem 4 ∧
  decode 0x01E0 = .nop011 0x01E0 ∧ decode 0x5121 = .nop501 0x5121 ∧ decode 0xF1FF = .nopF32 0xF1FF

/-- Decoding undoes encoding, for every well-formed instruction and every operand value (30_encoding.md rules R72, R76). -/
def Obligations.DecodeOfEncode : Prop := ∀ i : Instr, i.wellFormed = true → decode (encode i) = i

/-- Decoding is total: every word decodes to a well-formed instruction whose encoding is that word again (30_encoding.md
rules R76, R77, R79). That no two words share an instruction rests on the model's keeping ignored bits (log entry 25). -/
def Obligations.EncodeOfDecode : Prop := ∀ w : Word, (decode w).wellFormed = true ∧ encode (decode w) = w

/-- Exactly one row of the opcode table takes each of the 65536 words (30_encoding.md, layout of the table; rule R76). -/
def Obligations.OneRowPerWord : Prop := ∀ w : Word, (table.filter fun r => r.accepts w).length = 1

/-- A word decodes to one of the 34 forms iff the family map recognises it (30_encoding.md rule R74; exactness: the spec's
decision D14, log entry 22). -/
def Obligations.DecodeFollowsFamilyMap : Prop := ∀ w : Word, (decode w).recognised = familyMap w

/-! ### Fetch and step -/

/-- 20_memory.md rule R50: the byte at the lower address is the high byte; it holds the family and X, the next one NN. -/
def Obligations.FetchIsBigEndian : Prop :=
  ∀ s : State,
    s.fetchWord.toNat = 256 * (s.mem.read s.pc.toNat).toNat + (s.mem.read (s.pc.toNat + 1)).toNat ∧
    family s.fetchWord ++ fieldX s.fetchWord = s.mem.read s.pc.toNat ∧
    fieldNN s.fetchWord = s.mem.read (s.pc.toNat + 1)

/-- 40_fetch_decode_execute.md rule R90: when the CPU moves next below the fetch limit, the step is the decoded instruction run
on the state whose `PC` has advanced by 2; if it did not raise, the grid is then presented and the loop goes back to the host.
The phase is the model's own (log entry 10), the presentation record too (log entry 16). -/
def Obligations.StepRunsDecodedInstruction : Prop :=
  ∀ (s : State) (i : Instr), s.status = .running → s.phase = .run → s.ticksDue = 0 → s.pc.toNat < 0xFFE →
    decode (s.mem.read s.pc.toNat ++ s.mem.read (s.pc.toNat + 1)) = i →
    step s = match exec i { s with pc := s.pc + 2 } with
      | .next t => .next (if t.status = .running then
          { t with shown := t.disp, presents := t.presents + 1, phase := .poll } else t)
      | .fault f => .fault f
      | .refused r => .refused r

/-- 40_fetch_decode_execute.md rule R91, 60_exceptions.md rule R181: a fetch at `PC ≥ 0xFFE` raises EndOfProgram and changes
nothing but `STATUS`. The boundary is the spec's decision D1 (log entry 3). -/
def Obligations.EndOfProgramAtTopOfMemory : Prop :=
  ∀ s : State, s.status = .running → s.phase = .run → s.ticksDue = 0 → 0xFFE ≤ s.pc.toNat →
    step s = .next { s with status := .ended }

/-- 10_state.md rule R35, 60_exceptions.md rule R189: once `STATUS` is not RUNNING no step is taken; the model's step answers
the fault of that name (the spec's decision D15; log entries 8, 9). -/
def Obligations.StoppedMachineTakesNoStep : Prop :=
  ∀ s : State,
    (s.status = .ended → step s = .fault .ended) ∧
    (s.status = .faulted .stackUnderflow → step s = .fault .stackUnderflow) ∧
    (s.status = .faulted .stackOverflow → step s = .fault .stackOverflow) ∧
    (s.status = .quit → step s = .fault .quit)

/-- 60_exceptions.md rules R198, R201, 40_fetch_decode_execute.md rule R94: at the top of the loop the host quits, which changes
only `STATUS`, or delivers keys and ticks. It holds for every value of the free values (log entries 11, 12, 15). -/
def Obligations.HostPollsBetweenSteps : Prop :=
  ∀ s : State, s.status = .running → s.phase = .poll →
    step s = .next (if Config.hostQuits s.polls then { s with status := .quit } else
      { s with keys := Config.hostKeys s.polls, ticksDue := s.ticksDue + Config.ticksDelivered s.polls, phase := .run,
               polls := s.polls + 1 })

/-- 60_exceptions.md rule R192: a due tick decrements `DT` unless it is 0 and touches nothing else; it comes before the CPU step
(rule R187). The count of due ticks is the model's (log entry 11). -/
def Obligations.TickDecrementsCountdown : Prop :=
  ∀ s : State, s.status = .running → s.phase = .run → s.ticksDue ≠ 0 →
    ∃ t, step s = .next t ∧ t.dt.toNat = s.dt.toNat - 1 ∧ t.ticksDue + 1 = s.ticksDue ∧ OnlyChanges [.dt, .ticksDue] s t

/-- 60_exceptions.md rule R193 (the spec's inference): `n` due ticks subtract `min n DT`. -/
def Obligations.TicksSubtractMinimum : Prop :=
  ∀ (n : Nat) (s : State), s.status = .running → s.phase = .run → s.ticksDue = n →
    ∃ t, Host.Core.run Sys2Proof.core n s = .next t ∧ t.dt.toNat = s.dt.toNat - min n s.dt.toNat ∧ t.ticksDue = 0 ∧
      OnlyChanges [.dt, .ticksDue] s t

/-- 60_exceptions.md rule R194 a, b (the spec's inference): no step but one that runs `FX15` makes `DT` larger, and that one
makes it `V[X]`. -/
def Obligations.TimerOnlyFallsBetweenArmings : Prop :=
  ∀ s t : State, step s = .next t →
    ((∀ x, ¬ s.runsNext (.ldDtVx x)) → t.dt.toNat ≤ s.dt.toNat) ∧ (∀ x, s.runsNext (.ldDtVx x) → t.dt = s.getV x)

/-- 40_fetch_decode_execute.md rule R96: a run ends in four ways only. The fetch limit and the call depth are the spec's
decisions D1 and D2 (log entries 3, 7); that the ending step is a next state is the model's choice (log entry 8). -/
def Obligations.RunEndsInFourWaysOnly : Prop :=
  ∀ s t : State, step s = .next t → t.status ≠ .running →
    (t.status = .ended ∧ s.cpuNext ∧ 0xFFE ≤ s.pc.toNat) ∨
    (t.status = .faulted .stackUnderflow ∧ s.runsNext .ret ∧ s.sp = 0) ∨
    (t.status = .faulted .stackOverflow ∧ (∃ nnn, s.runsNext (.call nnn)) ∧ s.sp = 15) ∨
    (t.status = .quit ∧ s.phase = .poll ∧ Config.hostQuits s.polls = true)

/-- 20_memory.md rule R60 b: nothing but `FX33` and `FX55` changes memory. -/
def Obligations.MemoryChangesByStoresOnly : Prop :=
  ∀ s t : State, step s = .next t → (∀ x, ¬ s.runsNext (.ldB x)) → (∀ x, ¬ s.runsNext (.ldMemVx x)) →
    ∀ a, t.mem.read a = s.mem.read a

/-- 10_state.md rule R25: `PC` advances by exactly 2 per fetched instruction unless one of the overriding instructions gives it
another value. The values rest on the spec's decisions D2 (the call stops at SP = 15, log entry 7), D12 (the key number, log entry
13), D15 (a stack fault leaves the post-fetch `PC`, log entry 8) and D24 (`BNNN` is not reduced, log entry 21), and on its
inference that `00EE` loads `PC` (log entry 32). -/
def Obligations.PcAdvancesByTwoUnlessOverridden : Prop :=
  ∀ (s t : State) (i : Instr), s.runsNext i → step s = .next t → t.pc = pcAfter (s.pc + 2) s i

/-! ### Frames over all instructions -/

/-- 40_fetch_decode_execute.md rule R93, with 10_state.md rules R20, R23, R28, R29, R33, R34: every one of the 103 instructions
answers a next state, whatever the state, and changes no part but its own. That `00EE` and `2NNN` answer a next state on a stack
fault too is the model's choice (log entry 8); that `DXYN` leaves `V`, `VF` included, is the spec's decision D4 (log entry 5); the
parts of the ports and of the model are the model's (log entries 10, 14, 16). -/
def Obligations.EveryInstructionChangesOnlyItsParts : Prop :=
  ∀ (i : Instr) (s : State), ∃ t, exec i s = .next t ∧ OnlyChanges (mayChange i) s t

/-- 10_state.md rules R22, R23 (the spec's inference): a general register, `VF` included, is written by the instructions the
table names only. That `DXYN` writes no flag is the spec's decision D4 (log entry 5), that `8XY0` to `8XY3` write none D7 (log
entry 23). -/
def Obligations.RegistersWrittenByTheirWritersOnly : Prop :=
  ∀ (i : Instr) (s t : State) (r : Nibble), exec i s = .next t → mayWrite r i = false → t.getV r = s.getV r

/-! ### Register load, add, the ALU, the random byte -/

/-- 42_alu.md rule R120. -/
def Obligations.LoadImmediateSetsRegister : Prop :=
  ∀ (x : Nibble) (nn : Byte) (s : State),
    decode (0x6#4 ++ x ++ nn) = .ldImm x nn ∧
    ∃ t, exec (.ldImm x nn) s = .next t ∧ t.getV x = nn ∧ OnlyV x s t ∧ OnlyChanges [.v] s t

/-- 42_alu.md rule R121: modulo 256, no flag. With X = F the sum is an ordinary result in `VF` (the spec's inference). -/
def Obligations.AddImmediateWrapsWithoutFlag : Prop :=
  ∀ (x : Nibble) (nn : Byte) (s : State),
    ∃ t, exec (.addImm x nn) s = .next t ∧ (t.getV x).toNat = ((s.getV x).toNat + nn.toNat) % 256 ∧ OnlyV x s t ∧
      (x ≠ vf → t.getV vf = s.getV vf) ∧ OnlyChanges [.v] s t

/-- 42_alu.md rule R122. That the copy leaves `VF` alone unless X = F is the spec's decision D7 (log entry 23). -/
def Obligations.LoadRegisterCopies : Prop :=
  ∀ (x y : Nibble) (s : State),
    decode (0x8#4 ++ x ++ y ++ 0x0#4) = .ldReg x y ∧
    ∃ t, exec (.ldReg x y) s = .next t ∧ t.getV x = s.getV y ∧ t.getV y = s.getV y ∧ OnlyV x s t ∧ OnlyChanges [.v] s t

/-- 42_alu.md rules R123 to R125: bit by bit. `VF` is left alone (the spec's decision D7, log entry 23). -/
def Obligations.LogicOperationsLeaveFlagAlone : Prop :=
  ∀ (x y : Nibble) (s : State),
    (∃ t, exec (.orReg x y) s = .next t ∧
      (∀ k < 8, (t.getV x).getLsbD k = ((s.getV x).getLsbD k || (s.getV y).getLsbD k)) ∧
      OnlyV x s t ∧ OnlyChanges [.v] s t) ∧
    (∃ t, exec (.andReg x y) s = .next t ∧
      (∀ k < 8, (t.getV x).getLsbD k = ((s.getV x).getLsbD k && (s.getV y).getLsbD k)) ∧
      OnlyV x s t ∧ OnlyChanges [.v] s t) ∧
    (∃ t, exec (.xorReg x y) s = .next t ∧
      (∀ k < 8, (t.getV x).getLsbD k = ((s.getV x).getLsbD k != (s.getV y).getLsbD k)) ∧
      OnlyV x s t ∧ OnlyChanges [.v] s t)

/-- 42_alu.md rule R126: `VF` is the carry out, for every X and Y; with X = F the sum is lost (the spec's decision D6, log
entry 6). -/
def Obligations.AddRegisterReportsCarry : Prop :=
  ∀ (x y : Nibble) (s : State),
    ∃ t, exec (.addReg x y) s = .next t ∧
      t.getV vf = (if (s.getV x).toNat + (s.getV y).toNat > 255 then 1 else 0) ∧
      (x ≠ vf → (t.getV x).toNat = ((s.getV x).toNat + (s.getV y).toNat) % 256) ∧
      (∀ r, r ≠ x → r ≠ vf → t.getV r = s.getV r) ∧ OnlyChanges [.v] s t

/-- 42_alu.md rules R127, R129: the difference modulo 256, and `VF` = 1 iff a borrow occurred (the spec's decisions D5 and D6, log
entries 4, 6). -/
def Obligations.SubtractionsReportBorrow : Prop :=
  ∀ (x y : Nibble) (s : State),
    (∃ t, exec (.sub x y) s = .next t ∧ t.getV vf = (if (s.getV x).toNat < (s.getV y).toNat then 1 else 0) ∧
      (x ≠ vf → (t.getV x).toNat = ((s.getV x).toNat + 256 - (s.getV y).toNat) % 256) ∧
      (∀ r, r ≠ x → r ≠ vf → t.getV r = s.getV r) ∧ OnlyChanges [.v] s t) ∧
    (∃ t, exec (.subn x y) s = .next t ∧ t.getV vf = (if (s.getV y).toNat < (s.getV x).toNat then 1 else 0) ∧
      (x ≠ vf → (t.getV x).toNat = ((s.getV y).toNat + 256 - (s.getV x).toNat) % 256) ∧
      (∀ r, r ≠ x → r ≠ vf → t.getV r = s.getV r) ∧ OnlyChanges [.v] s t)

/-- 42_alu.md rules R128, R130: one position, zero fill, `VF` the bit moved out, Y ignored (X = F: the spec's decision D6, log
entry 6). -/
def Obligations.ShiftsReportTheBitMovedOut : Prop :=
  ∀ (x y z : Nibble) (s : State),
    (∃ t, exec (.shr x y) s = .next t ∧ exec (.shr x z) s = .next t ∧
      (t.getV vf).toNat = (s.getV x).toNat % 2 ∧ (x ≠ vf → (t.getV x).toNat = (s.getV x).toNat / 2) ∧
      (∀ r, r ≠ x → r ≠ vf → t.getV r = s.getV r) ∧ OnlyChanges [.v] s t) ∧
    (∃ t, exec (.shl x y) s = .next t ∧ exec (.shl x z) s = .next t ∧
      (t.getV vf).toNat = (s.getV x).toNat / 128 ∧ (x ≠ vf → (t.getV x).toNat = (s.getV x).toNat * 2 % 256) ∧
      (∀ r, r ≠ x → r ≠ vf → t.getV r = s.getV r) ∧ OnlyChanges [.v] s t)

/-- 42_alu.md rule R131: the result is NN and a free byte, a fresh one at every execution (the form of the free byte and the
counter of draws are the model's choice over the spec's decision D19, log entry 14); the possible results are exactly the
bytes with no bit outside NN, two to the number of bits set in NN of them. It holds for every value of `Config.randomByte`. -/
def Obligations.RandomByteIsMasked : Prop :=
  ∀ (x : Nibble) (nn : Byte) (s : State),
    decode (0xC#4 ++ x ++ nn) = .rnd x nn ∧
    (∃ t, exec (.rnd x nn) s = .next t ∧ t.getV x = nn &&& Config.randomByte s.draws ∧ t.getV x &&& ~~~nn = 0 ∧
      t.draws = s.draws + 1 ∧ OnlyV x s t ∧ OnlyChanges [.v, .draws] s t) ∧
    (∀ v : Byte, (v &&& ~~~nn = 0 ↔ ∃ r, v = nn &&& r)) ∧
    (List.range 256).countP (fun v => BitVec.ofNat 8 v &&& ~~~nn == 0) = 2 ^ (List.range 8).countP nn.getLsbD

/-! ### Index register and memory -/

/-- 43_index_memory.md rule R140. -/
def Obligations.LoadIndexZeroExtends : Prop :=
  ∀ (nnn : Addr12) (s : State),
    decode (0xA#4 ++ nnn) = .ldI nnn ∧
    ∃ t, exec (.ldI nnn) s = .next t ∧ t.i.toNat = nnn.toNat ∧ (∀ k, 12 ≤ k → t.i.getLsbD k = false) ∧ OnlyChanges [.i] s t

/-- 43_index_memory.md rule R141: modulo 65536, `VF` not set; the address formed later is reduced modulo 4096 only then. -/
def Obligations.AddIndexWrapsAt16Bits : Prop :=
  ∀ (x : Nibble) (s : State),
    decode (0xF#4 ++ x ++ 0x1#4 ++ 0xE#4) = .addI x ∧
    ∃ t, exec (.addI x) s = .next t ∧ t.i.toNat = (s.i.toNat + (s.getV x).toNat) % 65536 ∧
      t.getV vf = s.getV vf ∧ t.memRead t.i.toNat = s.mem.read ((s.i.toNat + (s.getV x).toNat) % 65536 % 4096) ∧
      OnlyChanges [.i] s t

/-- 43_index_memory.md rule R142. -/
def Obligations.GlyphAddressIsFiveTimesDigit : Prop :=
  ∀ (x : Nibble) (s : State),
    decode (0xF#4 ++ x ++ 0x2#4 ++ 0x9#4) = .ldF x ∧
    ∃ t, exec (.ldF x) s = .next t ∧ t.i.toNat = (s.getV x).toNat % 16 * 5 ∧ t.i.toNat ≤ 0x4B ∧ OnlyChanges [.i] s t

/-- 43_index_memory.md rule R143: the digits at `I`, `I + 1`, `I + 2` modulo 4096, which are distinct addresses, every other byte
as before; a fetch reads the memory the digits were stored to. -/
def Obligations.StoreDecimalDigits : Prop :=
  ∀ (x : Nibble) (s : State),
    decode (0xF#4 ++ x ++ 0x3#4 ++ 0x3#4) = .ldB x ∧
    ∃ t, exec (.ldB x) s = .next t ∧
      (t.mem.read (s.dataAddr 0 % 4096)).toNat = (s.getV x).toNat / 100 ∧
      (t.mem.read (s.dataAddr 1 % 4096)).toNat = (s.getV x).toNat / 10 % 10 ∧
      (t.mem.read (s.dataAddr 2 % 4096)).toNat = (s.getV x).toNat % 10 ∧
      (∀ j k, j < k → k < 3 → s.dataAddr j % 4096 ≠ s.dataAddr k % 4096) ∧
      (∀ a, (∀ k < 3, a ≠ s.dataAddr k % 4096) → t.mem.read a = s.mem.read a) ∧
      t.fetchWord = t.mem.read t.pc.toNat ++ t.mem.read (t.pc.toNat + 1) ∧ OnlyChanges [.mem] s t

/-- 43_index_memory.md rule R144: `V[k]` at `I + k` modulo 4096 for k = 0..X, every other byte as before, `I` and the registers
kept; a fetch reads the memory the bytes were stored to. -/
def Obligations.StoreBlockOfRegisters : Prop :=
  ∀ (x : Nibble) (s : State),
    decode (0xF#4 ++ x ++ 0x5#4 ++ 0x5#4) = .ldMemVx x ∧
    ∃ t, exec (.ldMemVx x) s = .next t ∧
      (∀ k ≤ x.toNat, t.mem.read (s.dataAddr k % 4096) = s.getV (BitVec.ofNat 4 k)) ∧
      (∀ a, (∀ k ≤ x.toNat, a ≠ s.dataAddr k % 4096) → t.mem.read a = s.mem.read a) ∧
      t.fetchWord = t.mem.read t.pc.toNat ++ t.mem.read (t.pc.toNat + 1) ∧ OnlyChanges [.mem] s t

/-- 43_index_memory.md rule R145: `V[k]` from `I + k` modulo 4096 for k = 0..X, the registers above X, `I` and memory kept. -/
def Obligations.LoadBlockOfRegisters : Prop :=
  ∀ (x : Nibble) (s : State),
    decode (0xF#4 ++ x ++ 0x6#4 ++ 0x5#4) = .ldVxMem x ∧
    ∃ t, exec (.ldVxMem x) s = .next t ∧
      (∀ r : Nibble, r ≤ x → t.getV r = s.mem.read (s.dataAddr r.toNat % 4096)) ∧
      (∀ r : Nibble, x < r → t.getV r = s.getV r) ∧ OnlyChanges [.v] s t

/-- 00_scope.md rule R9, 20_memory.md rule R56: data addresses wrap modulo 4096, and reducing `I + k` to 16 bits first makes no
difference (the spec's inference). -/
def Obligations.DataAddressesWrap : Prop :=
  ∀ (s : State) (k : Nat) (b : Byte),
    s.memRead (s.dataAddr k) = s.mem.read ((s.i.toNat + k) % 4096) ∧
    s.memRead ((s.i + BitVec.ofNat 16 k).toNat) = s.memRead (s.dataAddr k) ∧
    ∀ a, (s.memWrite (s.dataAddr k) b).mem.read a = if a = (s.i.toNat + k) % 4096 then b else s.mem.read a

/-- 20_memory.md rules R60 a, R61 (the spec's inference): `FX55` with `I` at the next instruction makes the very next fetch read
the stored word. -/
def Obligations.StoreIsSeenByNextFetch : Prop :=
  ∀ (x : Nibble) (s : State), x ≠ 0 → s.i = s.pc → s.pc.toNat < 0xFFE →
    ∃ t, exec (.ldMemVx x) s = .next t ∧ t.fetchWord = s.getV 0 ++ s.getV 1

/-! ### Control flow -/

/-- 41_control_flow.md rule R101. That a target from 0xFFE raises EndOfProgram at the next fetch rests on decision D1 (log entry
3). -/
def Obligations.JumpSetsPc : Prop :=
  ∀ (nnn : Addr12) (s : State),
    ∃ t, exec (.jp nnn) s = .next t ∧ t.pc.toNat = nnn.toNat ∧ (0xFFE ≤ nnn.toNat → t.atEnd = true) ∧ OnlyChanges [.pc] s t

/-- 41_control_flow.md rule R107: a 16-bit sum that is never reduced (the spec's decision D24, log entry 21). -/
def Obligations.JumpWithOffsetIsNotReduced : Prop :=
  ∀ (nnn : Addr12) (s : State),
    ∃ t, exec (.jpV0 nnn) s = .next t ∧ t.pc.toNat = nnn.toNat + (s.getV 0).toNat ∧ OnlyChanges [.pc] s t

/-- 41_control_flow.md rules R103, R104: `PC` gains 2 iff the condition holds. -/
def Obligations.SkipOnImmediate : Prop :=
  ∀ (x : Nibble) (nn : Byte) (s : State),
    decode (0x3#4 ++ x ++ nn) = .seImm x nn ∧ decode (0x4#4 ++ x ++ nn) = .sneImm x nn ∧
    (∃ t, exec (.seImm x nn) s = .next t ∧ t.pc = (if s.getV x = nn then s.pc + 2 else s.pc) ∧ OnlyChanges [.pc] s t) ∧
    (∃ t, exec (.sneImm x nn) s = .next t ∧ t.pc = (if s.getV x = nn then s.pc else s.pc + 2) ∧ OnlyChanges [.pc] s t)

/-- 41_control_flow.md rules R105, R106: with X = Y the first always skips, the second never. -/
def Obligations.SkipOnRegisters : Prop :=
  ∀ (x y : Nibble) (s : State),
    decode (0x5#4 ++ x ++ y ++ 0x0#4) = .seReg x y ∧ decode (0x9#4 ++ x ++ y ++ 0x0#4) = .sneReg x y ∧
    (∃ t, exec (.seReg x y) s = .next t ∧ t.pc = (if s.getV x = s.getV y then s.pc + 2 else s.pc) ∧
      (x = y → t.pc = s.pc + 2) ∧ OnlyChanges [.pc] s t) ∧
    (∃ t, exec (.sneReg x y) s = .next t ∧ t.pc = (if s.getV x = s.getV y then s.pc else s.pc + 2) ∧
      (x = y → t.pc = s.pc) ∧ OnlyChanges [.pc] s t)

/-- 41_control_flow.md rule R102: below depth 15 the call pushes the post-fetch `PC` (the depth: the spec's decision D2, log
entry 7). -/
def Obligations.CallPushesReturnAddress : Prop :=
  ∀ (nnn : Addr12) (s : State), s.sp.val < 15 →
    ∃ t, exec (.call nnn) s = .next t ∧ t.pc.toNat = nnn.toNat ∧ t.sp.val = s.sp.val + 1 ∧ t.stack[t.sp] = s.pc ∧
      (∀ k : Fin 16, k ≠ t.sp → t.stack[k] = s.stack[k]) ∧ OnlyChanges [.pc, .sp, .stack] s t

/-- 41_control_flow.md rule R102, 60_exceptions.md rules R183, R184: at depth 15 the call raises StackOverflow, changes nothing
but `STATUS`, and no step follows (the spec's decisions D2 and D15, log entries 7, 8). -/
def Obligations.CallAtDepthFifteenOverflows : Prop :=
  ∀ (nnn : Addr12) (s : State), s.sp.val = 15 →
    ∃ t, exec (.call nnn) s = .next t ∧ t.status = .faulted .stackOverflow ∧ OnlyChanges [.status] s t ∧
      step t = .fault .stackOverflow

/-- 41_control_flow.md rule R100: the return address goes to `PC` (the spec's inference, log entry 32), every slot keeps its
value. -/
def Obligations.ReturnPopsReturnAddress : Prop :=
  ∀ s : State, 0 < s.sp.val →
    ∃ t, exec .ret s = .next t ∧ t.pc = s.stack[s.sp] ∧ t.sp.val = s.sp.val - 1 ∧ OnlyChanges [.pc, .sp] s t

/-- 60_exceptions.md rule R182: `00EE` raises StackUnderflow iff `SP = 0`; `SP`, `STACK`, every register and the post-fetch `PC`
keep their values, and no step follows (the state left: the spec's decision D15, log entry 8; the stop as a fault of the next
step: the model's choice, log entries 8, 9). -/
def Obligations.ReturnOnEmptyStackUnderflows : Prop :=
  ∀ s : State,
    (s.sp.val = 0 → ∃ t, exec .ret s = .next t ∧ t.status = .faulted .stackUnderflow ∧ OnlyChanges [.status] s t ∧
      step t = .fault .stackUnderflow) ∧
    (s.sp.val ≠ 0 → ∃ t, exec .ret s = .next t ∧ t.status = s.status)

/-! ### Display -/

/-- 44_display.md rule R150: every pixel unlit, and the blank grid presented once (one presentation, no clear event: the spec's
decision D22, log entry 16). -/
def Obligations.ClearScreenBlanksDisplay : Prop :=
  ∀ s : State, ∃ t, exec .cls s = .next t ∧ (∀ x y, t.disp.pixel x y = false) ∧ t.shown = t.disp ∧
    t.presents = s.presents + 1 ∧ OnlyChanges [.disp, .shown, .presents] s t

/-- 44_display.md rules R151, R152: the row-by-row XOR of the sprite is, cell by cell, the XOR with the sprite bit that lands on
the cell; `VF` is not written (the spec's decisions D4 and D8, log entries 5, 18; the wrap of the row reads, log entry 31). -/
def Obligations.DrawXorsTheCoveredCells : Prop :=
  ∀ (x y n : Nibble) (s : State),
    ∃ t, exec (.drw x y n) s = .next t ∧
      (∀ (px : Fin 64) (py : Fin 32),
        t.disp.pixel px py = (s.disp.pixel px py ^^ covers s (s.getV x) (s.getV y) n.toNat px py)) ∧
      t.shown = t.disp ∧ t.presents = s.presents + 1 ∧ OnlyChanges [.disp, .shown, .presents] s t

/-- 44_display.md rule R153 a (the spec's inference): drawing twice restores the display. With X or Y = F it rests on `DXYN` leaving
`VF` alone, the spec's decision D4 (log entry 5). -/
def Obligations.DrawTwiceRestoresDisplay : Prop :=
  ∀ (x y n : Nibble) (s : State),
    ∃ t u, exec (.drw x y n) s = .next t ∧ exec (.drw x y n) t = .next u ∧ ∀ px py, u.disp.pixel px py = s.disp.pixel px py

/-- 44_display.md rule R153 d (the spec's inference): nothing a step does, but to the display and the grid shown, depends on
the display. It rests on `DXYN` reporting no collision, the spec's decision D4 (log entry 5). -/
def Obligations.DisplayIsNeverRead : Prop :=
  ∀ (s : State) (d e : Display), AgreeButDisplay (step s) (step (s.withDisplay d e))

/-! ### Keys and timer -/

/-- 45_keys_timers.md rules R160, R161: the key number is the low nibble of `V[X]` (the spec's decision D12, log entry 13); the
keys are what the host last delivered (log entry 12). -/
def Obligations.KeySkipsSampleOneKey : Prop :=
  ∀ (x : Nibble) (s : State),
    (∃ t, exec (.skp x) s = .next t ∧
      t.pc = (if s.keys.getLsbD ((s.getV x).toNat % 16) then s.pc + 2 else s.pc) ∧ OnlyChanges [.pc] s t) ∧
    (∃ t, exec (.sknp x) s = .next t ∧
      t.pc = (if s.keys.getLsbD ((s.getV x).toNat % 16) then s.pc else s.pc + 2) ∧ OnlyChanges [.pc] s t)

/-- 45_keys_timers.md rules R162, R164: `FX07` reads `DT` and leaves it, `FX15` arms it (the phase of the first tick is free: the
spec's decision D18, log entry 11). -/
def Obligations.TimerIsReadAndArmed : Prop :=
  ∀ (x : Nibble) (s : State),
    (∃ t, exec (.ldVxDt x) s = .next t ∧ t.getV x = s.dt ∧ OnlyV x s t ∧ OnlyChanges [.v] s t) ∧
    (∃ t, exec (.ldDtVx x) s = .next t ∧ t.dt = s.getV x ∧ OnlyChanges [.dt] s t)

/-- 45_keys_timers.md rules R163, R165: the two placeholders are recognised forms and change nothing. -/
def Obligations.PlaceholdersDoNothing : Prop :=
  ∀ (x : Nibble) (s : State),
    decode (0xF#4 ++ x ++ 0x0#4 ++ 0xA#4) = .ldVxK x ∧ decode (0xF#4 ++ x ++ 0x1#4 ++ 0x8#4) = .ldStVx x ∧
    (Instr.ldVxK x).recognised = true ∧ (Instr.ldStVx x).recognised = true ∧
    exec (.ldVxK x) s = .next s ∧ exec (.ldStVx x) s = .next s

/-! ### Unrecognised words -/

/-- 46_unrecognised.md rules R170, R171, R173: the unrecognised words of families 0, 5 and 9 do nothing (that near misses are
among them: the spec's decision D14, log entry 22). -/
def Obligations.UnrecognisedZeroFiveNineDoNothing : Prop :=
  (∀ w : Word, w.toNat / 4096 = 0 → w ≠ 0x00E0 → w ≠ 0x00EE → NoOperation w) ∧
  (∀ w : Word, w.toNat / 4096 = 5 → w.toNat % 16 ≠ 0 → NoOperation w) ∧
  (∀ w : Word, w.toNat / 4096 = 9 → w.toNat % 16 ≠ 0 → NoOperation w) ∧
  ∀ (w : Word) (s : State), ∀ i ∈ ([.nop001 w, .nop002 w, .nop003 w, .nop004 w, .nop005 w, .nop006 w, .nop007 w, .nop008 w,
    .nop009 w, .nop010 w, .nop011 w, .nop012 w, .nop013 w, .nop014 w, .nop501 w, .nop502 w, .nop503 w, .nop504 w, .nop901 w,
    .nop902 w, .nop903 w, .nop904 w] : List Instr), exec i s = .next s

/-- 46_unrecognised.md rule R172: the words of family 8 with low nibble 8 to D or F do nothing; `VF` is not touched. -/
def Obligations.UnrecognisedEightDoesNothing : Prop :=
  (∀ w : Word, w.toNat / 4096 = 8 → w.toNat % 16 ∈ [0x8, 0x9, 0xA, 0xB, 0xC, 0xD, 0xF] → NoOperation w) ∧
  ∀ (w : Word) (s : State), ∀ i ∈ ([.nop801 w, .nop802 w, .nop803 w] : List Instr), exec i s = .next s

/-- 46_unrecognised.md rule R174: the other words of family E do nothing. -/
def Obligations.UnrecognisedEDoesNothing : Prop :=
  (∀ w : Word, w.toNat / 4096 = 0xE → w.toNat % 256 ∉ [0x9E, 0xA1] → NoOperation w) ∧
  ∀ (w : Word) (s : State), ∀ i ∈ ([.nopE01 w, .nopE02 w, .nopE03 w, .nopE04 w, .nopE05 w, .nopE06 w, .nopE07 w, .nopE08 w,
    .nopE09 w, .nopE10 w, .nopE11 w, .nopE12 w] : List Instr), exec i s = .next s

/-- 46_unrecognised.md rule R175: the other words of family F do nothing. -/
def Obligations.UnrecognisedFDoesNothing : Prop :=
  (∀ w : Word, w.toNat / 4096 = 0xF → w.toNat % 256 ∉ [0x07, 0x0A, 0x15, 0x18, 0x1E, 0x29, 0x33, 0x55, 0x65] →
    NoOperation w) ∧
  ∀ (w : Word) (s : State), ∀ i ∈ ([.nopF01 w, .nopF02 w, .nopF03 w, .nopF04 w, .nopF05 w, .nopF06 w, .nopF07 w, .nopF08 w,
    .nopF09 w, .nopF10 w, .nopF11 w, .nopF12 w, .nopF13 w, .nopF14 w, .nopF15 w, .nopF16 w, .nopF17 w, .nopF18 w, .nopF19 w,
    .nopF20 w, .nopF21 w, .nopF22 w, .nopF23 w, .nopF24 w, .nopF25 w, .nopF26 w, .nopF27 w, .nopF28 w, .nopF29 w, .nopF30 w,
    .nopF31 w, .nopF32 w] : List Instr), exec i s = .next s

/-! ### Reset and invariants -/

/-- 10_state.md rule R40: the values the spec states (`PC`, `DT`, `SP`, `STATUS`), the spec's decision D13 for the rest (log entry
1), the presumed font (decision D9, log entry 2), with the empty program image. -/
def Obligations.ResetLeavesTheStatedValues : Prop :=
  State.reset.pc = 0x0200 ∧ State.reset.dt = 0 ∧ State.reset.sp = 0 ∧ State.reset.status = .running ∧
  (∀ r, State.reset.getV r = 0) ∧ State.reset.i = 0 ∧ (∀ k : Fin 16, State.reset.stack[k] = 0) ∧
  (∀ x y, State.reset.disp.pixel x y = false) ∧
  (∀ a, a < 80 → State.reset.mem.read a = Params.font.getD a 0) ∧ (∀ a, 80 ≤ a → State.reset.mem.read a = 0)

/-- 70_reset_and_hazards.md rules R211, R212: an image of at most 3584 bytes lies at 0x200 in order, and nothing else differs from
reset; a longer one has no reset state (the spec's decision D16, log entry 17). -/
def Obligations.ImageLoadsAtProgramBase : Prop :=
  ∀ image : List Byte,
    (image.length ≤ 3584 → ∃ s, loadImage image = .ok s ∧
      (∀ k (h : k < image.length), s.mem.read (0x200 + k) = image[k]) ∧
      (∀ a, a < 0x200 ∨ 0x200 + image.length ≤ a → s.mem.read a = resetByte a) ∧
      s.mem.wf ∧ OnlyChanges [.mem] State.reset s) ∧
    (3584 < image.length → loadImage image = .error .imageTooLong)

/-- The three invariants hold at reset. -/
def Obligations.ResetMeetsTheInvariants : Prop :=
  State.reset.MemInv ∧ State.reset.ControlInv ∧ State.reset.ShownInv

/-- Every step keeps memory in its canonical form, with no cell outside 0x000..0xFFF (10_state.md rule R30; the form is the
model's). -/
def Obligations.StepKeepsMemoryCanonical : Prop := ∀ s t : State, s.MemInv → step s = .next t → t.MemInv

/-- 10_state.md rules R26, R29 (the spec's inference): every step keeps `PC` at most 0x10FE, every return address held in
0x0002..0x0FFF, and slot 0 unwritten. It rests on the decisions D1, D2 and D24 (log entries 3, 7, 21). -/
def Obligations.StepKeepsPcAndStackInRange : Prop := ∀ s t : State, s.ControlInv → step s = .next t → t.ControlInv

/-- 40_fetch_decode_execute.md rules R95, R97: between steps the grid last presented is the display (the record of it is the
model's, log entry 16). -/
def Obligations.StepKeepsGridPresented : Prop := ∀ s t : State, s.ShownInv → step s = .next t → t.ShownInv
end

