-- ==== Sys2Proof/Laws/Decode.lean ====
section
/-! SUPPORT. The opcode table: no two rows take one word, and some row takes every word. -/

namespace Sys2Proof

/-- Two cubes that disagree on a bit both masks hold share no word. -/
theorem inCube_disjoint {m v m' v' : Word} (h : v &&& m' ≠ v' &&& m) (w : Word) (hw : inCube m v w = true) :
    inCube m' v' w = false := by
  simp only [inCube, beq_iff_eq, beq_eq_false_iff_ne] at *
  rintro rfl
  apply h
  rw [← hw, BitVec.and_assoc, BitVec.and_assoc, BitVec.and_comm m m']

/-- The rows of the table are pairwise exclusive (30_encoding.md rule R76). -/
theorem table_disjoint : table.Pairwise fun r q => r.value &&& q.mask ≠ q.value &&& r.mask := by decide

/-- A word a row takes is decoded by that row. -/
theorem decode_of_accepts {r : Row} (hr : r ∈ table) {w : Word} (hw : r.accepts w = true) : decode w = r.build w := by
  suffices h : table.find? (fun r => r.accepts w) = some r by simp [decode, h]
  have hd := table_disjoint
  revert hr hd
  generalize table = l
  intro hr hd
  induction l with
  | nil => cases hr
  | cons q l ih =>
    rw [List.pairwise_cons] at hd
    by_cases hq : q.accepts w = true
    · rcases List.mem_cons.mp hr with rfl | hr
      · simp [hq]
      · exact absurd hw (by simpa [Row.accepts] using inCube_disjoint (hd.1 r hr) w hq)
    · rcases List.mem_cons.mp hr with rfl | hr
      · exact absurd hw hq
      · simpa [hq] using ih hr hd.2

/-- A row whose mask lies inside `m` and whose value agrees with `v` takes every word of the cube `m`, `v`. -/
def Row.spans (r : Row) (m v : Word) : Bool := r.mask &&& m == r.mask && v &&& r.mask == r.value

/-- Is the cube `m`, `v` covered by the table, splitting it on the given bits in turn where no row spans it? -/
def covered : List Nat → Word → Word → Bool
  | [], m, v => table.any fun r => r.spans m v
  | b :: bs, m, v =>
    (table.any fun r => r.spans m v) ||
      (covered bs (m ||| BitVec.twoPow 16 b) v &&
        covered bs (m ||| BitVec.twoPow 16 b) (v ||| BitVec.twoPow 16 b))

theorem spans_accepts {m v w : Word} (hw : w &&& m = v) (h : table.any (fun r => r.spans m v) = true) :
    ∃ r ∈ table, r.accepts w = true := by
  obtain ⟨r, hr, hs⟩ := List.any_eq_true.mp h
  simp only [Row.spans, Bool.and_eq_true, beq_iff_eq] at hs
  refine ⟨r, hr, ?_⟩
  rw [Row.accepts, inCube, beq_iff_eq, ← hs.2, ← hw, BitVec.and_assoc, BitVec.and_comm m, hs.1]

/-- A covered cube has a row for each of its words. -/
theorem covered_accepts (bs : List Nat) {m v w : Word} (hw : w &&& m = v) (h : covered bs m v = true) :
    ∃ r ∈ table, r.accepts w = true := by
  induction bs generalizing m v with
  | nil => exact spans_accepts hw h
  | cons b bs ih =>
    simp only [covered, Bool.or_eq_true, Bool.and_eq_true] at h
    rcases h with h | ⟨h0, h1⟩
    · exact spans_accepts hw h
    · cases hb : w.getLsbD b
      · exact ih (by rw [BitVec.and_or_distrib_left, hw, BitVec.and_twoPow, hb]; simp) h0
      · exact ih (by rw [BitVec.and_or_distrib_left, hw, BitVec.and_twoPow, hb]; simp) h1

/-- The sub-opcode bits of a family (30_encoding.md rule R74). -/
def subopcodeBits (f : Nibble) : List Nat :=
  if f = 0 then [11, 10, 9, 8, 7, 6, 5, 4, 3, 2, 1, 0]
  else if f = 0xE ∨ f = 0xF then [7, 6, 5, 4, 3, 2, 1, 0]
  else [3, 2, 1, 0]

theorem family_covered : ∀ f : Nibble, covered (subopcodeBits f) 0xF000 (f ++ 0x0#12) = true := by decide

theorem family_cube (w : Word) : w &&& 0xF000 = family w ++ 0x0#12 := by
  apply BitVec.eq_of_getLsbD_eq
  intro i hi
  rw [BitVec.getLsbD_append, BitVec.getLsbD_and, family, BitVec.getLsbD_extractLsb']
  interval_cases i <;> simp

/-- Some row takes every word: decoding is total (30_encoding.md rule R79). -/
theorem table_covers (w : Word) : ∃ r ∈ table, r.accepts w = true :=
  covered_accepts _ (family_cube w) (family_covered _)

end Sys2Proof
end

