-- ==== Sys2Proof/Laws/State.lean ====
section
/-! SUPPORT. One lemma per field per update of the state, true by unfolding the update once, so that no later proof does. -/

namespace Sys2Proof.Machine

variable (s : State)

/-! ### memWrite -/

@[simp] theorem State.memWrite_v (a : Nat) (b : Byte) : (s.memWrite a b).v = s.v := rfl
@[simp] theorem State.memWrite_i (a : Nat) (b : Byte) : (s.memWrite a b).i = s.i := rfl
@[simp] theorem State.memWrite_pc (a : Nat) (b : Byte) : (s.memWrite a b).pc = s.pc := rfl
@[simp] theorem State.memWrite_stack (a : Nat) (b : Byte) : (s.memWrite a b).stack = s.stack := rfl
@[simp] theorem State.memWrite_sp (a : Nat) (b : Byte) : (s.memWrite a b).sp = s.sp := rfl
@[simp] theorem State.memWrite_mem (a : Nat) (b : Byte) : (s.memWrite a b).mem = s.mem.write (a % 4096) b := rfl
@[simp] theorem State.memWrite_disp (a : Nat) (b : Byte) : (s.memWrite a b).disp = s.disp := rfl
@[simp] theorem State.memWrite_dt (a : Nat) (b : Byte) : (s.memWrite a b).dt = s.dt := rfl
@[simp] theorem State.memWrite_status (a : Nat) (b : Byte) : (s.memWrite a b).status = s.status := rfl
@[simp] theorem State.memWrite_keys (a : Nat) (b : Byte) : (s.memWrite a b).keys = s.keys := rfl
@[simp] theorem State.memWrite_ticksDue (a : Nat) (b : Byte) : (s.memWrite a b).ticksDue = s.ticksDue := rfl
@[simp] theorem State.memWrite_shown (a : Nat) (b : Byte) : (s.memWrite a b).shown = s.shown := rfl
@[simp] theorem State.memWrite_presents (a : Nat) (b : Byte) : (s.memWrite a b).presents = s.presents := rfl
@[simp] theorem State.memWrite_phase (a : Nat) (b : Byte) : (s.memWrite a b).phase = s.phase := rfl
@[simp] theorem State.memWrite_polls (a : Nat) (b : Byte) : (s.memWrite a b).polls = s.polls := rfl
@[simp] theorem State.memWrite_draws (a : Nat) (b : Byte) : (s.memWrite a b).draws = s.draws := rfl

/-! ### setV -/

@[simp] theorem State.setV_i (r : Nibble) (b : Byte) : (s.setV r b).i = s.i := rfl
@[simp] theorem State.setV_pc (r : Nibble) (b : Byte) : (s.setV r b).pc = s.pc := rfl
@[simp] theorem State.setV_stack (r : Nibble) (b : Byte) : (s.setV r b).stack = s.stack := rfl
@[simp] theorem State.setV_sp (r : Nibble) (b : Byte) : (s.setV r b).sp = s.sp := rfl
@[simp] theorem State.setV_mem (r : Nibble) (b : Byte) : (s.setV r b).mem = s.mem := rfl
@[simp] theorem State.setV_disp (r : Nibble) (b : Byte) : (s.setV r b).disp = s.disp := rfl
@[simp] theorem State.setV_dt (r : Nibble) (b : Byte) : (s.setV r b).dt = s.dt := rfl
@[simp] theorem State.setV_status (r : Nibble) (b : Byte) : (s.setV r b).status = s.status := rfl
@[simp] theorem State.setV_keys (r : Nibble) (b : Byte) : (s.setV r b).keys = s.keys := rfl
@[simp] theorem State.setV_ticksDue (r : Nibble) (b : Byte) : (s.setV r b).ticksDue = s.ticksDue := rfl
@[simp] theorem State.setV_shown (r : Nibble) (b : Byte) : (s.setV r b).shown = s.shown := rfl
@[simp] theorem State.setV_presents (r : Nibble) (b : Byte) : (s.setV r b).presents = s.presents := rfl
@[simp] theorem State.setV_phase (r : Nibble) (b : Byte) : (s.setV r b).phase = s.phase := rfl
@[simp] theorem State.setV_polls (r : Nibble) (b : Byte) : (s.setV r b).polls = s.polls := rfl
@[simp] theorem State.setV_draws (r : Nibble) (b : Byte) : (s.setV r b).draws = s.draws := rfl

/-! ### setI -/

@[simp] theorem State.setI_v (w : Word) : (s.setI w).v = s.v := rfl
@[simp] theorem State.setI_i (w : Word) : (s.setI w).i = w := rfl
@[simp] theorem State.setI_pc (w : Word) : (s.setI w).pc = s.pc := rfl
@[simp] theorem State.setI_stack (w : Word) : (s.setI w).stack = s.stack := rfl
@[simp] theorem State.setI_sp (w : Word) : (s.setI w).sp = s.sp := rfl
@[simp] theorem State.setI_mem (w : Word) : (s.setI w).mem = s.mem := rfl
@[simp] theorem State.setI_disp (w : Word) : (s.setI w).disp = s.disp := rfl
@[simp] theorem State.setI_dt (w : Word) : (s.setI w).dt = s.dt := rfl
@[simp] theorem State.setI_status (w : Word) : (s.setI w).status = s.status := rfl
@[simp] theorem State.setI_keys (w : Word) : (s.setI w).keys = s.keys := rfl
@[simp] theorem State.setI_ticksDue (w : Word) : (s.setI w).ticksDue = s.ticksDue := rfl
@[simp] theorem State.setI_shown (w : Word) : (s.setI w).shown = s.shown := rfl
@[simp] theorem State.setI_presents (w : Word) : (s.setI w).presents = s.presents := rfl
@[simp] theorem State.setI_phase (w : Word) : (s.setI w).phase = s.phase := rfl
@[simp] theorem State.setI_polls (w : Word) : (s.setI w).polls = s.polls := rfl
@[simp] theorem State.setI_draws (w : Word) : (s.setI w).draws = s.draws := rfl

/-! ### setPc -/

@[simp] theorem State.setPc_v (w : Word) : (s.setPc w).v = s.v := rfl
@[simp] theorem State.setPc_i (w : Word) : (s.setPc w).i = s.i := rfl
@[simp] theorem State.setPc_pc (w : Word) : (s.setPc w).pc = w := rfl
@[simp] theorem State.setPc_stack (w : Word) : (s.setPc w).stack = s.stack := rfl
@[simp] theorem State.setPc_sp (w : Word) : (s.setPc w).sp = s.sp := rfl
@[simp] theorem State.setPc_mem (w : Word) : (s.setPc w).mem = s.mem := rfl
@[simp] theorem State.setPc_disp (w : Word) : (s.setPc w).disp = s.disp := rfl
@[simp] theorem State.setPc_dt (w : Word) : (s.setPc w).dt = s.dt := rfl
@[simp] theorem State.setPc_status (w : Word) : (s.setPc w).status = s.status := rfl
@[simp] theorem State.setPc_keys (w : Word) : (s.setPc w).keys = s.keys := rfl
@[simp] theorem State.setPc_ticksDue (w : Word) : (s.setPc w).ticksDue = s.ticksDue := rfl
@[simp] theorem State.setPc_shown (w : Word) : (s.setPc w).shown = s.shown := rfl
@[simp] theorem State.setPc_presents (w : Word) : (s.setPc w).presents = s.presents := rfl
@[simp] theorem State.setPc_phase (w : Word) : (s.setPc w).phase = s.phase := rfl
@[simp] theorem State.setPc_polls (w : Word) : (s.setPc w).polls = s.polls := rfl
@[simp] theorem State.setPc_draws (w : Word) : (s.setPc w).draws = s.draws := rfl

/-! ### setDt -/

@[simp] theorem State.setDt_v (b : Byte) : (s.setDt b).v = s.v := rfl
@[simp] theorem State.setDt_i (b : Byte) : (s.setDt b).i = s.i := rfl
@[simp] theorem State.setDt_pc (b : Byte) : (s.setDt b).pc = s.pc := rfl
@[simp] theorem State.setDt_stack (b : Byte) : (s.setDt b).stack = s.stack := rfl
@[simp] theorem State.setDt_sp (b : Byte) : (s.setDt b).sp = s.sp := rfl
@[simp] theorem State.setDt_mem (b : Byte) : (s.setDt b).mem = s.mem := rfl
@[simp] theorem State.setDt_disp (b : Byte) : (s.setDt b).disp = s.disp := rfl
@[simp] theorem State.setDt_dt (b : Byte) : (s.setDt b).dt = b := rfl
@[simp] theorem State.setDt_status (b : Byte) : (s.setDt b).status = s.status := rfl
@[simp] theorem State.setDt_keys (b : Byte) : (s.setDt b).keys = s.keys := rfl
@[simp] theorem State.setDt_ticksDue (b : Byte) : (s.setDt b).ticksDue = s.ticksDue := rfl
@[simp] theorem State.setDt_shown (b : Byte) : (s.setDt b).shown = s.shown := rfl
@[simp] theorem State.setDt_presents (b : Byte) : (s.setDt b).presents = s.presents := rfl
@[simp] theorem State.setDt_phase (b : Byte) : (s.setDt b).phase = s.phase := rfl
@[simp] theorem State.setDt_polls (b : Byte) : (s.setDt b).polls = s.polls := rfl
@[simp] theorem State.setDt_draws (b : Byte) : (s.setDt b).draws = s.draws := rfl

/-! ### advance -/

@[simp] theorem State.advance_v : (s.advance).v = s.v := rfl
@[simp] theorem State.advance_i : (s.advance).i = s.i := rfl
@[simp] theorem State.advance_pc : (s.advance).pc = s.pc + 2 := rfl
@[simp] theorem State.advance_stack : (s.advance).stack = s.stack := rfl
@[simp] theorem State.advance_sp : (s.advance).sp = s.sp := rfl
@[simp] theorem State.advance_mem : (s.advance).mem = s.mem := rfl
@[simp] theorem State.advance_disp : (s.advance).disp = s.disp := rfl
@[simp] theorem State.advance_dt : (s.advance).dt = s.dt := rfl
@[simp] theorem State.advance_status : (s.advance).status = s.status := rfl
@[simp] theorem State.advance_keys : (s.advance).keys = s.keys := rfl
@[simp] theorem State.advance_ticksDue : (s.advance).ticksDue = s.ticksDue := rfl
@[simp] theorem State.advance_shown : (s.advance).shown = s.shown := rfl
@[simp] theorem State.advance_presents : (s.advance).presents = s.presents := rfl
@[simp] theorem State.advance_phase : (s.advance).phase = s.phase := rfl
@[simp] theorem State.advance_polls : (s.advance).polls = s.polls := rfl
@[simp] theorem State.advance_draws : (s.advance).draws = s.draws := rfl

/-! ### skipIf -/

@[simp] theorem State.skipIf_v (c : Bool) : (s.skipIf c).v = s.v := by cases c <;> rfl
@[simp] theorem State.skipIf_i (c : Bool) : (s.skipIf c).i = s.i := by cases c <;> rfl
@[simp] theorem State.skipIf_pc (c : Bool) : (s.skipIf c).pc = if c then s.pc + 2 else s.pc := by cases c <;> rfl
@[simp] theorem State.skipIf_stack (c : Bool) : (s.skipIf c).stack = s.stack := by cases c <;> rfl
@[simp] theorem State.skipIf_sp (c : Bool) : (s.skipIf c).sp = s.sp := by cases c <;> rfl
@[simp] theorem State.skipIf_mem (c : Bool) : (s.skipIf c).mem = s.mem := by cases c <;> rfl
@[simp] theorem State.skipIf_disp (c : Bool) : (s.skipIf c).disp = s.disp := by cases c <;> rfl
@[simp] theorem State.skipIf_dt (c : Bool) : (s.skipIf c).dt = s.dt := by cases c <;> rfl
@[simp] theorem State.skipIf_status (c : Bool) : (s.skipIf c).status = s.status := by cases c <;> rfl
@[simp] theorem State.skipIf_keys (c : Bool) : (s.skipIf c).keys = s.keys := by cases c <;> rfl
@[simp] theorem State.skipIf_ticksDue (c : Bool) : (s.skipIf c).ticksDue = s.ticksDue := by cases c <;> rfl
@[simp] theorem State.skipIf_shown (c : Bool) : (s.skipIf c).shown = s.shown := by cases c <;> rfl
@[simp] theorem State.skipIf_presents (c : Bool) : (s.skipIf c).presents = s.presents := by cases c <;> rfl
@[simp] theorem State.skipIf_phase (c : Bool) : (s.skipIf c).phase = s.phase := by cases c <;> rfl
@[simp] theorem State.skipIf_polls (c : Bool) : (s.skipIf c).polls = s.polls := by cases c <;> rfl
@[simp] theorem State.skipIf_draws (c : Bool) : (s.skipIf c).draws = s.draws := by cases c <;> rfl

/-! ### push -/

@[simp] theorem State.push_v (w : Word) : (s.push w).v = s.v := rfl
@[simp] theorem State.push_i (w : Word) : (s.push w).i = s.i := rfl
@[simp] theorem State.push_pc (w : Word) : (s.push w).pc = s.pc := rfl
@[simp] theorem State.push_stack (w : Word) : (s.push w).stack = s.stack.set (s.sp + 1).val w (s.sp + 1).isLt := rfl
@[simp] theorem State.push_sp (w : Word) : (s.push w).sp = s.sp + 1 := rfl
@[simp] theorem State.push_mem (w : Word) : (s.push w).mem = s.mem := rfl
@[simp] theorem State.push_disp (w : Word) : (s.push w).disp = s.disp := rfl
@[simp] theorem State.push_dt (w : Word) : (s.push w).dt = s.dt := rfl
@[simp] theorem State.push_status (w : Word) : (s.push w).status = s.status := rfl
@[simp] theorem State.push_keys (w : Word) : (s.push w).keys = s.keys := rfl
@[simp] theorem State.push_ticksDue (w : Word) : (s.push w).ticksDue = s.ticksDue := rfl
@[simp] theorem State.push_shown (w : Word) : (s.push w).shown = s.shown := rfl
@[simp] theorem State.push_presents (w : Word) : (s.push w).presents = s.presents := rfl
@[simp] theorem State.push_phase (w : Word) : (s.push w).phase = s.phase := rfl
@[simp] theorem State.push_polls (w : Word) : (s.push w).polls = s.polls := rfl
@[simp] theorem State.push_draws (w : Word) : (s.push w).draws = s.draws := rfl

/-! ### pop -/

@[simp] theorem State.pop_v : (s.pop).v = s.v := rfl
@[simp] theorem State.pop_i : (s.pop).i = s.i := rfl
@[simp] theorem State.pop_pc : (s.pop).pc = s.pc := rfl
@[simp] theorem State.pop_stack : (s.pop).stack = s.stack := rfl
@[simp] theorem State.pop_sp : (s.pop).sp = s.sp - 1 := rfl
@[simp] theorem State.pop_mem : (s.pop).mem = s.mem := rfl
@[simp] theorem State.pop_disp : (s.pop).disp = s.disp := rfl
@[simp] theorem State.pop_dt : (s.pop).dt = s.dt := rfl
@[simp] theorem State.pop_status : (s.pop).status = s.status := rfl
@[simp] theorem State.pop_keys : (s.pop).keys = s.keys := rfl
@[simp] theorem State.pop_ticksDue : (s.pop).ticksDue = s.ticksDue := rfl
@[simp] theorem State.pop_shown : (s.pop).shown = s.shown := rfl
@[simp] theorem State.pop_presents : (s.pop).presents = s.presents := rfl
@[simp] theorem State.pop_phase : (s.pop).phase = s.phase := rfl
@[simp] theorem State.pop_polls : (s.pop).polls = s.polls := rfl
@[simp] theorem State.pop_draws : (s.pop).draws = s.draws := rfl

/-! ### present -/

@[simp] theorem State.present_v : (s.present).v = s.v := rfl
@[simp] theorem State.present_i : (s.present).i = s.i := rfl
@[simp] theorem State.present_pc : (s.present).pc = s.pc := rfl
@[simp] theorem State.present_stack : (s.present).stack = s.stack := rfl
@[simp] theorem State.present_sp : (s.present).sp = s.sp := rfl
@[simp] theorem State.present_mem : (s.present).mem = s.mem := rfl
@[simp] theorem State.present_disp : (s.present).disp = s.disp := rfl
@[simp] theorem State.present_dt : (s.present).dt = s.dt := rfl
@[simp] theorem State.present_status : (s.present).status = s.status := rfl
@[simp] theorem State.present_keys : (s.present).keys = s.keys := rfl
@[simp] theorem State.present_ticksDue : (s.present).ticksDue = s.ticksDue := rfl
@[simp] theorem State.present_shown : (s.present).shown = s.disp := rfl
@[simp] theorem State.present_presents : (s.present).presents = s.presents + 1 := rfl
@[simp] theorem State.present_phase : (s.present).phase = s.phase := rfl
@[simp] theorem State.present_polls : (s.present).polls = s.polls := rfl
@[simp] theorem State.present_draws : (s.present).draws = s.draws := rfl

/-! ### raise -/

@[simp] theorem State.raise_v (c : Condition) : (s.raise c).v = s.v := by cases c <;> rfl
@[simp] theorem State.raise_i (c : Condition) : (s.raise c).i = s.i := by cases c <;> rfl
@[simp] theorem State.raise_pc (c : Condition) : (s.raise c).pc = s.pc := by cases c <;> rfl
@[simp] theorem State.raise_stack (c : Condition) : (s.raise c).stack = s.stack := by cases c <;> rfl
@[simp] theorem State.raise_sp (c : Condition) : (s.raise c).sp = s.sp := by cases c <;> rfl
@[simp] theorem State.raise_mem (c : Condition) : (s.raise c).mem = s.mem := by cases c <;> rfl
@[simp] theorem State.raise_disp (c : Condition) : (s.raise c).disp = s.disp := by cases c <;> rfl
@[simp] theorem State.raise_dt (c : Condition) : (s.raise c).dt = s.dt := by cases c <;> rfl
@[simp] theorem State.raise_keys (c : Condition) : (s.raise c).keys = s.keys := by cases c <;> rfl
@[simp] theorem State.raise_ticksDue (c : Condition) : (s.raise c).ticksDue = s.ticksDue := by cases c <;> rfl
@[simp] theorem State.raise_shown (c : Condition) : (s.raise c).shown = s.shown := by cases c <;> rfl
@[simp] theorem State.raise_presents (c : Condition) : (s.raise c).presents = s.presents := by cases c <;> rfl
@[simp] theorem State.raise_phase (c : Condition) : (s.raise c).phase = s.phase := by cases c <;> rfl
@[simp] theorem State.raise_polls (c : Condition) : (s.raise c).polls = s.polls := by cases c <;> rfl
@[simp] theorem State.raise_draws (c : Condition) : (s.raise c).draws = s.draws := by cases c <;> rfl

/-! ### setResultFlag -/

@[simp] theorem State.setResultFlag_i (x : Nibble) (b : Byte) (f : Bool) : (s.setResultFlag x b f).i = s.i := rfl
@[simp] theorem State.setResultFlag_pc (x : Nibble) (b : Byte) (f : Bool) : (s.setResultFlag x b f).pc = s.pc := rfl
@[simp] theorem State.setResultFlag_stack (x : Nibble) (b : Byte) (f : Bool) : (s.setResultFlag x b f).stack = s.stack := rfl
@[simp] theorem State.setResultFlag_sp (x : Nibble) (b : Byte) (f : Bool) : (s.setResultFlag x b f).sp = s.sp := rfl
@[simp] theorem State.setResultFlag_mem (x : Nibble) (b : Byte) (f : Bool) : (s.setResultFlag x b f).mem = s.mem := rfl
@[simp] theorem State.setResultFlag_disp (x : Nibble) (b : Byte) (f : Bool) : (s.setResultFlag x b f).disp = s.disp := rfl
@[simp] theorem State.setResultFlag_dt (x : Nibble) (b : Byte) (f : Bool) : (s.setResultFlag x b f).dt = s.dt := rfl
@[simp] theorem State.setResultFlag_status (x : Nibble) (b : Byte) (f : Bool) : (s.setResultFlag x b f).status = s.status := rfl
@[simp] theorem State.setResultFlag_keys (x : Nibble) (b : Byte) (f : Bool) : (s.setResultFlag x b f).keys = s.keys := rfl
@[simp] theorem State.setResultFlag_ticksDue (x : Nibble) (b : Byte) (f : Bool) : (s.setResultFlag x b f).ticksDue = s.ticksDue := rfl
@[simp] theorem State.setResultFlag_shown (x : Nibble) (b : Byte) (f : Bool) : (s.setResultFlag x b f).shown = s.shown := rfl
@[simp] theorem State.setResultFlag_presents (x : Nibble) (b : Byte) (f : Bool) : (s.setResultFlag x b f).presents = s.presents := rfl
@[simp] theorem State.setResultFlag_phase (x : Nibble) (b : Byte) (f : Bool) : (s.setResultFlag x b f).phase = s.phase := rfl
@[simp] theorem State.setResultFlag_polls (x : Nibble) (b : Byte) (f : Bool) : (s.setResultFlag x b f).polls = s.polls := rfl
@[simp] theorem State.setResultFlag_draws (x : Nibble) (b : Byte) (f : Bool) : (s.setResultFlag x b f).draws = s.draws := rfl

/-! ### drawFlag -/

@[simp] theorem State.drawFlag_v (c : Bool) : (s.drawFlag c).v = s.v := rfl
@[simp] theorem State.drawFlag_i (c : Bool) : (s.drawFlag c).i = s.i := rfl
@[simp] theorem State.drawFlag_pc (c : Bool) : (s.drawFlag c).pc = s.pc := rfl
@[simp] theorem State.drawFlag_stack (c : Bool) : (s.drawFlag c).stack = s.stack := rfl
@[simp] theorem State.drawFlag_sp (c : Bool) : (s.drawFlag c).sp = s.sp := rfl
@[simp] theorem State.drawFlag_mem (c : Bool) : (s.drawFlag c).mem = s.mem := rfl
@[simp] theorem State.drawFlag_disp (c : Bool) : (s.drawFlag c).disp = s.disp := rfl
@[simp] theorem State.drawFlag_dt (c : Bool) : (s.drawFlag c).dt = s.dt := rfl
@[simp] theorem State.drawFlag_status (c : Bool) : (s.drawFlag c).status = s.status := rfl
@[simp] theorem State.drawFlag_keys (c : Bool) : (s.drawFlag c).keys = s.keys := rfl
@[simp] theorem State.drawFlag_ticksDue (c : Bool) : (s.drawFlag c).ticksDue = s.ticksDue := rfl
@[simp] theorem State.drawFlag_shown (c : Bool) : (s.drawFlag c).shown = s.shown := rfl
@[simp] theorem State.drawFlag_presents (c : Bool) : (s.drawFlag c).presents = s.presents := rfl
@[simp] theorem State.drawFlag_phase (c : Bool) : (s.drawFlag c).phase = s.phase := rfl
@[simp] theorem State.drawFlag_polls (c : Bool) : (s.drawFlag c).polls = s.polls := rfl
@[simp] theorem State.drawFlag_draws (c : Bool) : (s.drawFlag c).draws = s.draws := rfl

/-! ### What is read through an accessor -/

@[simp] theorem State.raise_endOfProgram_status : (s.raise .endOfProgram).status = .ended := rfl
@[simp] theorem State.raise_stackUnderflow_status : (s.raise .stackUnderflow).status = .faulted .stackUnderflow := rfl
@[simp] theorem State.raise_stackOverflow_status : (s.raise .stackOverflow).status = .faulted .stackOverflow := rfl
@[simp] theorem State.raise_unrecognizedSubopcode : s.raise .unrecognizedSubopcode = s := rfl

@[simp] theorem State.memWrite_getV (a : Nat) (b : Byte) (r : Nibble) : (s.memWrite a b).getV r = s.getV r := rfl
@[simp] theorem State.setI_getV (w : Word) (r : Nibble) : (s.setI w).getV r = s.getV r := rfl
@[simp] theorem State.setPc_getV (w : Word) (r : Nibble) : (s.setPc w).getV r = s.getV r := rfl
@[simp] theorem State.setDt_getV (b : Byte) (r : Nibble) : (s.setDt b).getV r = s.getV r := rfl
@[simp] theorem State.advance_getV (r : Nibble) : s.advance.getV r = s.getV r := rfl
@[simp] theorem State.skipIf_getV (c : Bool) (r : Nibble) : (s.skipIf c).getV r = s.getV r := by cases c <;> rfl
@[simp] theorem State.push_getV (w : Word) (r : Nibble) : (s.push w).getV r = s.getV r := rfl
@[simp] theorem State.pop_getV (r : Nibble) : s.pop.getV r = s.getV r := rfl
@[simp] theorem State.present_getV (r : Nibble) : s.present.getV r = s.getV r := rfl
@[simp] theorem State.raise_getV (c : Condition) (r : Nibble) : (s.raise c).getV r = s.getV r := by cases c <;> rfl
@[simp] theorem State.drawFlag_getV (c : Bool) (r : Nibble) : (s.drawFlag c).getV r = s.getV r := rfl

@[simp] theorem State.memWrite_dataAddr (a : Nat) (b : Byte) (k : Nat) : (s.memWrite a b).dataAddr k = s.dataAddr k := rfl
@[simp] theorem State.setV_dataAddr (r : Nibble) (b : Byte) (k : Nat) : (s.setV r b).dataAddr k = s.dataAddr k := rfl
@[simp] theorem State.setV_memRead (r : Nibble) (b : Byte) (a : Nat) : (s.setV r b).memRead a = s.memRead a := rfl

/-- Reading a register after writing one. -/
@[simp] theorem State.setV_getV (r q : Nibble) (b : Byte) : (s.setV r b).getV q = if q = r then b else s.getV q := by
  simp only [State.setV, State.getV, Vector.getElem_set]
  by_cases h : q = r
  · simp [h]
  · have : ¬ r.toNat = q.toNat := fun e => h (BitVec.eq_of_toNat_eq e.symm)
    simp [h, this]

/-- Reading a register after a result and its flag: `VF` holds the flag, whatever `x` is. -/
@[simp] theorem State.setResultFlag_getV (x q : Nibble) (b : Byte) (f : Bool) :
    (s.setResultFlag x b f).getV q = if q = vf then flagByte f else if q = x then b else s.getV q := by
  simp [State.setResultFlag]

end Sys2Proof.Machine
end

