-- ==== Sys2Proof/Laws/Memory.lean ====
section
/-! SUPPORT. Memory: reading after writing, and the canonical form, which every memory operation keeps. -/

namespace Sys2Proof.Machine

theorem Memory.read_insert (m : Memory) (a : Nat) (b : Byte) (a' : Nat) (h : ∀ c ∈ m, c.1 ≠ a) :
    Memory.read (Memory.insert a b m) a' = if a' = a then b else Memory.read m a' := by
  induction m with
  | nil => simp [Memory.insert, Memory.read, eq_comm]
  | cons c m ih =>
    obtain ⟨c, d⟩ := c
    have hc : c ≠ a := h (c, d) (by simp)
    have hm := ih fun e he => h e (by simp [he])
    by_cases hlt : a < c
    · simp [Memory.insert, hlt, Memory.read, eq_comm]
    · by_cases hca : c = a'
      · subst hca
        simp [Memory.insert, hlt, Memory.read, hc]
      · simp [Memory.insert, hlt, Memory.read, hca, hm]

/-- Dropping an address's cell: the address reads as its reset byte, every other address as before. -/
theorem Memory.read_filter (m : Memory) (a a' : Nat) :
    Memory.read (m.filter fun c => c.1 != a) a' = if a' = a then resetByte a else Memory.read m a' := by
  induction m with
  | nil => by_cases h : a' = a <;> simp [Memory.read, h]
  | cons c m ih =>
    obtain ⟨c, d⟩ := c
    by_cases hc : c = a
    · subst hc
      by_cases h : a' = c
      · subst h
        simpa using ih
      · have h' : ¬ c = a' := fun e => h e.symm
        simp [Memory.read, ih, h, h']
    · by_cases h : c = a'
      · subst h
        simp [Memory.read, hc]
      · simp [Memory.read, hc, h, ih]

/-- Reading after a store: the stored byte at its address, every other address as before. It holds of every memory, in
canonical form or not. -/
theorem Memory.read_write (m : Memory) (a a' : Nat) (b : Byte) :
    Memory.read (m.write a b) a' = if a' = a then b else Memory.read m a' := by
  unfold Memory.write
  by_cases hb : b = resetByte a
  · simp [hb, Memory.read_filter]
  · simp only [hb, if_false]
    rw [Memory.read_insert _ _ _ _ fun c hc => by simpa using (List.mem_filter.mp hc).2, Memory.read_filter]
    by_cases h : a' = a <;> simp [h]

/-- `Memory.read_write` for the data access `MemWrite`. -/
theorem State.memWrite_read (s : State) (a a' : Nat) (b : Byte) :
    (s.memWrite a b).mem.read a' = if a' = a % 4096 then b else s.mem.read a' :=
  Memory.read_write _ _ _ _

/-- The canonical form survives dropping cells. -/
theorem Memory.wf_filter {m : Memory} (h : m.wf) (a : Nat) : Memory.wf (m.filter fun c => c.1 != a) :=
  ⟨h.1.filter _, fun c hc => h.2 c (List.mem_filter.mp hc).1⟩

theorem Memory.mem_insert {m : Memory} {a : Nat} {b : Byte} {c : Host.Cell} (h : c ∈ Memory.insert a b m) :
    c = (a, b) ∨ c ∈ m := by
  induction m with
  | nil => simpa [Memory.insert] using h
  | cons e m ih =>
    obtain ⟨e, d⟩ := e
    by_cases hlt : a < e
    · simpa [Memory.insert, hlt] using h
    · simp only [Memory.insert, hlt, if_false, List.mem_cons] at h ⊢
      rcases h with h | h
      · exact .inr (.inl h)
      · rcases ih h with h | h
        · exact .inl h
        · exact .inr (.inr h)

/-- The canonical form survives listing a new cell. -/
theorem Memory.wf_insert {m : Memory} (h : m.wf) {a : Nat} {b : Byte} (hm : ∀ c ∈ m, c.1 ≠ a)
    (ha : a < Config.memSize) (hb : b ≠ resetByte a) : Memory.wf (Memory.insert a b m) := by
  refine ⟨?_, fun c hc => ?_⟩
  · obtain ⟨hs, -⟩ := h
    induction m with
    | nil => simp [Memory.insert]
    | cons e m ih =>
      obtain ⟨e, d⟩ := e
      have he : e ≠ a := hm (e, d) (by simp)
      rw [List.pairwise_cons] at hs
      by_cases hlt : a < e
      · simp only [Memory.insert, hlt, if_true, List.pairwise_cons]
        refine ⟨fun c hc => ?_, hs⟩
        rcases List.mem_cons.mp hc with rfl | hc
        · exact hlt
        · exact hlt.trans (hs.1 c hc)
      · simp only [Memory.insert, hlt, if_false, List.pairwise_cons]
        refine ⟨fun c hc => ?_, ih (fun c hc => hm c (by simp [hc])) hs.2⟩
        rcases Memory.mem_insert hc with rfl | hc
        · exact lt_of_le_of_ne (not_lt.mp hlt) he
        · exact hs.1 c hc
  · rcases Memory.mem_insert hc with rfl | hc
    · exact ⟨ha, hb⟩
    · exact h.2 c hc

/-- Every store keeps the canonical form. -/
theorem Memory.wf_write {m : Memory} (h : m.wf) {a : Nat} (ha : a < Config.memSize) (b : Byte) :
    Memory.wf (m.write a b) := by
  unfold Memory.write
  by_cases hb : b = resetByte a
  · simpa [hb] using Memory.wf_filter h a
  · simpa [hb] using Memory.wf_insert (Memory.wf_filter h a) (fun c hc => by simpa using (List.mem_filter.mp hc).2) ha hb

theorem State.memWrite_wf {s : State} (h : s.mem.wf) (a : Nat) (b : Byte) : Memory.wf (s.memWrite a b).mem :=
  Memory.wf_write h (Nat.mod_lt _ (by decide)) b

theorem State.storeBlock_wf {s : State} (h : s.mem.wf) (n : Nat) : Memory.wf (s.storeBlock n).mem := by
  induction n with
  | zero => exact h
  | succ n ih => exact State.memWrite_wf ih _ _

/-- Loading bytes inside memory keeps the canonical form. -/
theorem Memory.wf_writeList {m : Memory} (h : m.wf) (a : Nat) (bs : List Byte) (ha : a + bs.length ≤ Config.memSize) :
    Memory.wf (m.writeList a bs) := by
  induction bs generalizing m a with
  | nil => exact h
  | cons b bs ih =>
    simp only [List.length_cons] at ha
    exact ih (Memory.wf_write h (by omega) b) (a + 1) (by omega)

/-- Reset lists no cell, so its memory is in canonical form. -/
theorem State.reset_mem_wf : Memory.wf State.reset.mem := by
  simp [State.reset, Memory.wf]

end Sys2Proof.Machine
end

