-- ==== Sys2Proof/Laws/Ops.lean ====
section
/-! SUPPORT. One law for each shared operation: what it does, and that it does nothing else. -/

namespace Sys2Proof.Machine

/-! ### Display -/

/-- A toggle flips its own pixel and no other. -/
theorem Display.toggle_pixel (d : Display) (x x' : Fin 64) (y y' : Fin 32) :
    (d.toggle x y).pixel x' y' = (d.pixel x' y' ^^ decide (x' = x ∧ y' = y)) := by
  simp only [Display.toggle, Display.pixel, Vector.getElem_set]
  by_cases hx : x' = x
  · subst hx
    simp only [if_true, Vector.getElem_set]
    by_cases hy : y' = y
    · subst hy
      simp
    · have : ¬ y.val = y'.val := fun e => hy (Fin.ext e.symm)
      simp [hy, this]
  · have : ¬ x.val = x'.val := fun e => hx (Fin.ext e.symm)
    simp [hx, this]

@[simp] theorem Display.blank_pixel (x : Fin 64) (y : Fin 32) : Display.blank.pixel x y = false := by
  simp [Display.blank, Display.pixel]

/-! ### The call stack -/

/-- A push stores its slot and no other. -/
theorem State.push_slot (s : State) (w : Word) (k : Fin 16) :
    (s.push w).stack[k] = if k = s.sp + 1 then w else s.stack[k] := by
  show (s.stack.set (s.sp + 1).val w (s.sp + 1).isLt)[k.val] = _
  rw [Vector.getElem_set]
  by_cases h : k = s.sp + 1
  · subst h
    simp
  · have : ¬ (s.sp + 1).val = k.val := fun e => h (Fin.ext e.symm)
    simp [h, this]

/-! ### Register blocks -/

/-- Storing a block changes memory only. -/
theorem State.storeBlock_frame (s : State) (n : Nat) : s.storeBlock n = { s with mem := (s.storeBlock n).mem } := by
  induction n with
  | zero => rfl
  | succ n ih =>
    show (s.storeBlock n).memWrite _ _ = _
    rw [ih]
    rfl

/-- Loading a block changes the registers only. -/
theorem State.loadBlock_frame (s : State) (n : Nat) : s.loadBlock n = { s with v := (s.loadBlock n).v } := by
  induction n with
  | zero => rfl
  | succ n ih =>
    show (s.loadBlock n).setV _ _ = _
    rw [ih]
    rfl

/-! ### The end of a CPU step -/

theorem State.finish_running {s : State} (h : s.status = .running) :
    s.finish = { s.present with phase := .poll } := by
  simp [State.finish, h]

theorem State.finish_stopped {s : State} (h : s.status ≠ .running) : s.finish = s := by
  unfold State.finish
  split <;> simp_all

/-- `finish` leaves every part but the presentation and the phase as it is. -/
theorem State.finish_frame (s : State) :
    s.finish = { s with shown := s.finish.shown, presents := s.finish.presents, phase := s.finish.phase } := by
  by_cases h : s.status = .running
  · rw [State.finish_running h]
    rfl
  · rw [State.finish_stopped h]

theorem finishOutcome_next {o : Host.Outcome State Fault Refusal} {t : State} (h : finishOutcome o = .next t) :
    ∃ u, o = .next u ∧ t = u.finish := by
  cases o with
  | next u => exact ⟨u, rfl, by simpa [finishOutcome] using h.symm⟩
  | fault f => cases h
  | refused r => cases h

end Sys2Proof.Machine
end

