-- ==== Sys2Proof/Laws/PerInstr.lean ====
section
/-! SUPPORT. For every constructor: the table has a row that takes the encoded word and builds the instruction back from it. -/

namespace Sys2Proof.Laws

/-! ### The words of the six formats (30_encoding.md rule R71): their fixed bits and their fields -/

theorem nnn_fixed (f : Nibble) (a : Addr12) : ((f ++ a : Word) &&& 0xF000) = f ++ 0x0#12 := by
  apply BitVec.eq_of_getLsbD_eq
  intro i hi
  simp only [BitVec.getLsbD_and, BitVec.getLsbD_append]
  interval_cases i <;> simp

theorem nnn_field (f : Nibble) (a : Addr12) : fieldNNN (f ++ a) = a := by
  apply BitVec.eq_of_getLsbD_eq
  intro i hi
  simp only [fieldNNN, BitVec.getLsbD_extractLsb', BitVec.getLsbD_append]
  interval_cases i <;> simp

theorem xnn_fixed (f x : Nibble) (b : Byte) : ((f ++ x ++ b : Word) &&& 0xF000) = f ++ 0x0#12 := by
  apply BitVec.eq_of_getLsbD_eq
  intro i hi
  simp only [BitVec.getLsbD_and, BitVec.getLsbD_append]
  interval_cases i <;> simp

theorem xnn_field_x (f x : Nibble) (b : Byte) : fieldX (f ++ x ++ b) = x := by
  apply BitVec.eq_of_getLsbD_eq
  intro i hi
  simp only [fieldX, BitVec.getLsbD_extractLsb', BitVec.getLsbD_append]
  interval_cases i <;> simp

theorem xnn_field_nn (f x : Nibble) (b : Byte) : fieldNN (f ++ x ++ b) = b := by
  apply BitVec.eq_of_getLsbD_eq
  intro i hi
  simp only [fieldNN, BitVec.getLsbD_extractLsb', BitVec.getLsbD_append]
  interval_cases i <;> simp

/-- The mask of the formats whose fixed bits are the family and, under `m`, bits of the low byte. -/
theorem xyn_fixed (f x y n : Nibble) (m : Byte) :
    ((f ++ x ++ y ++ n : Word) &&& (0xF#4 ++ 0x0#4 ++ m)) = f ++ 0x0#4 ++ ((y ++ n : Byte) &&& m) := by
  apply BitVec.eq_of_getLsbD_eq
  intro i hi
  simp only [BitVec.getLsbD_and, BitVec.getLsbD_append]
  interval_cases i <;> simp

theorem xyn_field_x (f x y n : Nibble) : fieldX (f ++ x ++ y ++ n) = x := by
  apply BitVec.eq_of_getLsbD_eq
  intro i hi
  simp only [fieldX, BitVec.getLsbD_extractLsb', BitVec.getLsbD_append]
  interval_cases i <;> simp

theorem xyn_field_y (f x y n : Nibble) : fieldY (f ++ x ++ y ++ n) = y := by
  apply BitVec.eq_of_getLsbD_eq
  intro i hi
  simp only [fieldY, BitVec.getLsbD_extractLsb', BitVec.getLsbD_append]
  interval_cases i <;> simp

theorem xyn_field_n (f x y n : Nibble) : fieldN (f ++ x ++ y ++ n) = n := by
  apply BitVec.eq_of_getLsbD_eq
  intro i hi
  simp only [fieldN, BitVec.getLsbD_extractLsb', BitVec.getLsbD_append]
  interval_cases i <;> simp

/-- The fixed low nibble of the register-register formats survives the mask of its row. -/
theorem low_nibble_fixed : ∀ y n : Nibble, ((y ++ n : Byte) &&& 0x0F) = 0x0#4 ++ n := by decide

theorem drw_fixed : ∀ y n : Nibble, ((y ++ n : Byte) &&& 0x00) = 0x00 := by decide

theorem accepts_nnn {f : Nibble} {a : Addr12} {v : Word} (h : f ++ 0x0#12 = v) : inCube 0xF000 v (f ++ a) = true := by
  simp only [inCube, beq_iff_eq, ← h]
  exact nnn_fixed f a

theorem accepts_xnn {f x : Nibble} {b : Byte} {v : Word} (h : f ++ 0x0#12 = v) :
    inCube 0xF000 v (f ++ x ++ b) = true := by
  simp only [inCube, beq_iff_eq, ← h]
  exact xnn_fixed f x b

theorem accepts_xyn {f x y n : Nibble} {v : Word} (h : f ++ 0x0#4 ++ (0x0#4 ++ n) = v) :
    inCube 0xF00F v (f ++ x ++ y ++ n) = true := by
  simp only [inCube, beq_iff_eq, ← h, ← low_nibble_fixed y n]
  exact xyn_fixed f x y n 0x0F

theorem accepts_drw {x y n : Nibble} : inCube 0xF000 0xD000 (0xD#4 ++ x ++ y ++ n) = true := by
  have h := xyn_fixed 0xD x y n 0x00
  rw [drw_fixed] at h
  simp only [inCube, beq_iff_eq]
  exact h

theorem accepts_xlow {f x y n : Nibble} {v : Word} (h : f ++ 0x0#4 ++ ((y ++ n : Byte) &&& 0xFF) = v) :
    inCube 0xF0FF v (f ++ x ++ y ++ n) = true := by
  simp only [inCube, beq_iff_eq, ← h]
  exact xyn_fixed f x y n 0xFF

end Sys2Proof.Laws

namespace Sys2Proof.Laws.EncodeAccepted

/-- The encoded word of a well-formed instruction is taken by a row of the table, and that row builds the instruction back. -/
def Statement (i : Instr) : Prop :=
  i.wellFormed = true → ∃ r ∈ table, r.accepts (encode i) = true ∧ r.build (encode i) = i

theorem cls : Statement (.cls) :=
  fun _ => ⟨table[0], List.getElem_mem (by decide), by decide, rfl⟩

theorem ret : Statement (.ret) :=
  fun _ => ⟨table[1], List.getElem_mem (by decide), by decide, rfl⟩

theorem jp (nnn : Addr12) : Statement (.jp nnn) :=
  fun _ => ⟨table[2], List.getElem_mem (by decide), accepts_nnn (by decide), congrArg Instr.jp (nnn_field _ _)⟩

theorem call (nnn : Addr12) : Statement (.call nnn) :=
  fun _ => ⟨table[3], List.getElem_mem (by decide), accepts_nnn (by decide), congrArg Instr.call (nnn_field _ _)⟩

theorem seImm (x : Nibble) (nn : Byte) : Statement (.seImm x nn) :=
  fun _ => ⟨table[4], List.getElem_mem (by decide), accepts_xnn (by decide),
  congrArg₂ Instr.seImm (xnn_field_x _ _ _) (xnn_field_nn _ _ _)⟩

theorem sneImm (x : Nibble) (nn : Byte) : Statement (.sneImm x nn) :=
  fun _ => ⟨table[5], List.getElem_mem (by decide), accepts_xnn (by decide),
  congrArg₂ Instr.sneImm (xnn_field_x _ _ _) (xnn_field_nn _ _ _)⟩

theorem seReg (x : Nibble) (y : Nibble) : Statement (.seReg x y) :=
  fun _ => ⟨table[6], List.getElem_mem (by decide), accepts_xyn (by decide),
  congrArg₂ Instr.seReg (xyn_field_x _ _ _ _) (xyn_field_y _ _ _ _)⟩

theorem sneReg (x : Nibble) (y : Nibble) : Statement (.sneReg x y) :=
  fun _ => ⟨table[7], List.getElem_mem (by decide), accepts_xyn (by decide),
  congrArg₂ Instr.sneReg (xyn_field_x _ _ _ _) (xyn_field_y _ _ _ _)⟩

theorem ldImm (x : Nibble) (nn : Byte) : Statement (.ldImm x nn) :=
  fun _ => ⟨table[8], List.getElem_mem (by decide), accepts_xnn (by decide),
  congrArg₂ Instr.ldImm (xnn_field_x _ _ _) (xnn_field_nn _ _ _)⟩

theorem addImm (x : Nibble) (nn : Byte) : Statement (.addImm x nn) :=
  fun _ => ⟨table[9], List.getElem_mem (by decide), accepts_xnn (by decide),
  congrArg₂ Instr.addImm (xnn_field_x _ _ _) (xnn_field_nn _ _ _)⟩

theorem ldReg (x : Nibble) (y : Nibble) : Statement (.ldReg x y) :=
  fun _ => ⟨table[10], List.getElem_mem (by decide), accepts_xyn (by decide),
  congrArg₂ Instr.ldReg (xyn_field_x _ _ _ _) (xyn_field_y _ _ _ _)⟩

theorem orReg (x : Nibble) (y : Nibble) : Statement (.orReg x y) :=
  fun _ => ⟨table[11], List.getElem_mem (by decide), accepts_xyn (by decide),
  congrArg₂ Instr.orReg (xyn_field_x _ _ _ _) (xyn_field_y _ _ _ _)⟩

theorem andReg (x : Nibble) (y : Nibble) : Statement (.andReg x y) :=
  fun _ => ⟨table[12], List.getElem_mem (by decide), accepts_xyn (by decide),
  congrArg₂ Instr.andReg (xyn_field_x _ _ _ _) (xyn_field_y _ _ _ _)⟩

theorem xorReg (x : Nibble) (y : Nibble) : Statement (.xorReg x y) :=
  fun _ => ⟨table[13], List.getElem_mem (by decide), accepts_xyn (by decide),
  congrArg₂ Instr.xorReg (xyn_field_x _ _ _ _) (xyn_field_y _ _ _ _)⟩

theorem addReg (x : Nibble) (y : Nibble) : Statement (.addReg x y) :=
  fun _ => ⟨table[14], List.getElem_mem (by decide), accepts_xyn (by decide),
  congrArg₂ Instr.addReg (xyn_field_x _ _ _ _) (xyn_field_y _ _ _ _)⟩

theorem sub (x : Nibble) (y : Nibble) : Statement (.sub x y) :=
  fun _ => ⟨table[15], List.getElem_mem (by decide), accepts_xyn (by decide),
  congrArg₂ Instr.sub (xyn_field_x _ _ _ _) (xyn_field_y _ _ _ _)⟩

theorem shr (x : Nibble) (y : Nibble) : Statement (.shr x y) :=
  fun _ => ⟨table[16], List.getElem_mem (by decide), accepts_xyn (by decide),
  congrArg₂ Instr.shr (xyn_field_x _ _ _ _) (xyn_field_y _ _ _ _)⟩

theorem subn (x : Nibble) (y : Nibble) : Statement (.subn x y) :=
  fun _ => ⟨table[17], List.getElem_mem (by decide), accepts_xyn (by decide),
  congrArg₂ Instr.subn (xyn_field_x _ _ _ _) (xyn_field_y _ _ _ _)⟩

theorem shl (x : Nibble) (y : Nibble) : Statement (.shl x y) :=
  fun _ => ⟨table[18], List.getElem_mem (by decide), accepts_xyn (by decide),
  congrArg₂ Instr.shl (xyn_field_x _ _ _ _) (xyn_field_y _ _ _ _)⟩

theorem ldI (nnn : Addr12) : Statement (.ldI nnn) :=
  fun _ => ⟨table[19], List.getElem_mem (by decide), accepts_nnn (by decide), congrArg Instr.ldI (nnn_field _ _)⟩

theorem jpV0 (nnn : Addr12) : Statement (.jpV0 nnn) :=
  fun _ => ⟨table[20], List.getElem_mem (by decide), accepts_nnn (by decide), congrArg Instr.jpV0 (nnn_field _ _)⟩

theorem rnd (x : Nibble) (nn : Byte) : Statement (.rnd x nn) :=
  fun _ => ⟨table[21], List.getElem_mem (by decide), accepts_xnn (by decide),
  congrArg₂ Instr.rnd (xnn_field_x _ _ _) (xnn_field_nn _ _ _)⟩

theorem drw (x : Nibble) (y : Nibble) (n : Nibble) : Statement (.drw x y n) :=
  fun _ => ⟨table[22], List.getElem_mem (by decide), accepts_drw,
  by rw [show table[22].build (encode (.drw x y n)) = .drw (fieldX (0xD#4 ++ x ++ y ++ n)) (fieldY (0xD#4 ++ x ++ y ++ n))
    (fieldN (0xD#4 ++ x ++ y ++ n)) from rfl, xyn_field_x, xyn_field_y, xyn_field_n]⟩

theorem skp (x : Nibble) : Statement (.skp x) :=
  fun _ => ⟨table[23], List.getElem_mem (by decide), accepts_xlow (by decide), congrArg Instr.skp (xyn_field_x _ _ _ _)⟩

theorem sknp (x : Nibble) : Statement (.sknp x) :=
  fun _ => ⟨table[24], List.getElem_mem (by decide), accepts_xlow (by decide), congrArg Instr.sknp (xyn_field_x _ _ _ _)⟩

theorem ldVxDt (x : Nibble) : Statement (.ldVxDt x) :=
  fun _ => ⟨table[25], List.getElem_mem (by decide), accepts_xlow (by decide), congrArg Instr.ldVxDt (xyn_field_x _ _ _ _)⟩

theorem ldDtVx (x : Nibble) : Statement (.ldDtVx x) :=
  fun _ => ⟨table[26], List.getElem_mem (by decide), accepts_xlow (by decide), congrArg Instr.ldDtVx (xyn_field_x _ _ _ _)⟩

theorem ldVxK (x : Nibble) : Statement (.ldVxK x) :=
  fun _ => ⟨table[27], List.getElem_mem (by decide), accepts_xlow (by decide), congrArg Instr.ldVxK (xyn_field_x _ _ _ _)⟩

theorem ldStVx (x : Nibble) : Statement (.ldStVx x) :=
  fun _ => ⟨table[28], List.getElem_mem (by decide), accepts_xlow (by decide), congrArg Instr.ldStVx (xyn_field_x _ _ _ _)⟩

theorem addI (x : Nibble) : Statement (.addI x) :=
  fun _ => ⟨table[29], List.getElem_mem (by decide), accepts_xlow (by decide), congrArg Instr.addI (xyn_field_x _ _ _ _)⟩

theorem ldF (x : Nibble) : Statement (.ldF x) :=
  fun _ => ⟨table[30], List.getElem_mem (by decide), accepts_xlow (by decide), congrArg Instr.ldF (xyn_field_x _ _ _ _)⟩

theorem ldB (x : Nibble) : Statement (.ldB x) :=
  fun _ => ⟨table[31], List.getElem_mem (by decide), accepts_xlow (by decide), congrArg Instr.ldB (xyn_field_x _ _ _ _)⟩

theorem ldMemVx (x : Nibble) : Statement (.ldMemVx x) :=
  fun _ => ⟨table[32], List.getElem_mem (by decide), accepts_xlow (by decide), congrArg Instr.ldMemVx (xyn_field_x _ _ _ _)⟩

theorem ldVxMem (x : Nibble) : Statement (.ldVxMem x) :=
  fun _ => ⟨table[33], List.getElem_mem (by decide), accepts_xlow (by decide), congrArg Instr.ldVxMem (xyn_field_x _ _ _ _)⟩

theorem nop001 (w : Word) : Statement (.nop001 w) :=
  fun h => ⟨table[34], List.getElem_mem (by decide), h, rfl⟩

theorem nop002 (w : Word) : Statement (.nop002 w) :=
  fun h => ⟨table[35], List.getElem_mem (by decide), h, rfl⟩

theorem nop003 (w : Word) : Statement (.nop003 w) :=
  fun h => ⟨table[36], List.getElem_mem (by decide), h, rfl⟩

theorem nop004 (w : Word) : Statement (.nop004 w) :=
  fun h => ⟨table[37], List.getElem_mem (by decide), h, rfl⟩

theorem nop005 (w : Word) : Statement (.nop005 w) :=
  fun h => ⟨table[38], List.getElem_mem (by decide), h, rfl⟩

theorem nop006 (w : Word) : Statement (.nop006 w) :=
  fun h => ⟨table[39], List.getElem_mem (by decide), h, rfl⟩

theorem nop007 (w : Word) : Statement (.nop007 w) :=
  fun h => ⟨table[40], List.getElem_mem (by decide), h, rfl⟩

theorem nop008 (w : Word) : Statement (.nop008 w) :=
  fun h => ⟨table[41], List.getElem_mem (by decide), h, rfl⟩

theorem nop009 (w : Word) : Statement (.nop009 w) :=
  fun h => ⟨table[42], List.getElem_mem (by decide), h, rfl⟩

theorem nop010 (w : Word) : Statement (.nop010 w) :=
  fun h => ⟨table[43], List.getElem_mem (by decide), h, rfl⟩

theorem nop011 (w : Word) : Statement (.nop011 w) :=
  fun h => ⟨table[44], List.getElem_mem (by decide), h, rfl⟩

theorem nop012 (w : Word) : Statement (.nop012 w) :=
  fun h => ⟨table[45], List.getElem_mem (by decide), h, rfl⟩

theorem nop013 (w : Word) : Statement (.nop013 w) :=
  fun h => ⟨table[46], List.getElem_mem (by decide), h, rfl⟩

theorem nop014 (w : Word) : Statement (.nop014 w) :=
  fun h => ⟨table[47], List.getElem_mem (by decide), h, rfl⟩

theorem nop501 (w : Word) : Statement (.nop501 w) :=
  fun h => ⟨table[48], List.getElem_mem (by decide), h, rfl⟩

theorem nop502 (w : Word) : Statement (.nop502 w) :=
  fun h => ⟨table[49], List.getElem_mem (by decide), h, rfl⟩

theorem nop503 (w : Word) : Statement (.nop503 w) :=
  fun h => ⟨table[50], List.getElem_mem (by decide), h, rfl⟩

theorem nop504 (w : Word) : Statement (.nop504 w) :=
  fun h => ⟨table[51], List.getElem_mem (by decide), h, rfl⟩

theorem nop901 (w : Word) : Statement (.nop901 w) :=
  fun h => ⟨table[52], List.getElem_mem (by decide), h, rfl⟩

theorem nop902 (w : Word) : Statement (.nop902 w) :=
  fun h => ⟨table[53], List.getElem_mem (by decide), h, rfl⟩

theorem nop903 (w : Word) : Statement (.nop903 w) :=
  fun h => ⟨table[54], List.getElem_mem (by decide), h, rfl⟩

theorem nop904 (w : Word) : Statement (.nop904 w) :=
  fun h => ⟨table[55], List.getElem_mem (by decide), h, rfl⟩

theorem nop801 (w : Word) : Statement (.nop801 w) :=
  fun h => ⟨table[56], List.getElem_mem (by decide), h, rfl⟩

theorem nop802 (w : Word) : Statement (.nop802 w) :=
  fun h => ⟨table[57], List.getElem_mem (by decide), h, rfl⟩

theorem nop803 (w : Word) : Statement (.nop803 w) :=
  fun h => ⟨table[58], List.getElem_mem (by decide), h, rfl⟩

theorem nopE01 (w : Word) : Statement (.nopE01 w) :=
  fun h => ⟨table[59], List.getElem_mem (by decide), h, rfl⟩

theorem nopE02 (w : Word) : Statement (.nopE02 w) :=
  fun h => ⟨table[60], List.getElem_mem (by decide), h, rfl⟩

theorem nopE03 (w : Word) : Statement (.nopE03 w) :=
  fun h => ⟨table[61], List.getElem_mem (by decide), h, rfl⟩

theorem nopE04 (w : Word) : Statement (.nopE04 w) :=
  fun h => ⟨table[62], List.getElem_mem (by decide), h, rfl⟩

theorem nopE05 (w : Word) : Statement (.nopE05 w) :=
  fun h => ⟨table[63], List.getElem_mem (by decide), h, rfl⟩

theorem nopE06 (w : Word) : Statement (.nopE06 w) :=
  fun h => ⟨table[64], List.getElem_mem (by decide), h, rfl⟩

theorem nopE07 (w : Word) : Statement (.nopE07 w) :=
  fun h => ⟨table[65], List.getElem_mem (by decide), h, rfl⟩

theorem nopE08 (w : Word) : Statement (.nopE08 w) :=
  fun h => ⟨table[66], List.getElem_mem (by decide), h, rfl⟩

theorem nopE09 (w : Word) : Statement (.nopE09 w) :=
  fun h => ⟨table[67], List.getElem_mem (by decide), h, rfl⟩

theorem nopE10 (w : Word) : Statement (.nopE10 w) :=
  fun h => ⟨table[68], List.getElem_mem (by decide), h, rfl⟩

theorem nopE11 (w : Word) : Statement (.nopE11 w) :=
  fun h => ⟨table[69], List.getElem_mem (by decide), h, rfl⟩

theorem nopE12 (w : Word) : Statement (.nopE12 w) :=
  fun h => ⟨table[70], List.getElem_mem (by decide), h, rfl⟩

theorem nopF01 (w : Word) : Statement (.nopF01 w) :=
  fun h => ⟨table[71], List.getElem_mem (by decide), h, rfl⟩

theorem nopF02 (w : Word) : Statement (.nopF02 w) :=
  fun h => ⟨table[72], List.getElem_mem (by decide), h, rfl⟩

theorem nopF03 (w : Word) : Statement (.nopF03 w) :=
  fun h => ⟨table[73], List.getElem_mem (by decide), h, rfl⟩

theorem nopF04 (w : Word) : Statement (.nopF04 w) :=
  fun h => ⟨table[74], List.getElem_mem (by decide), h, rfl⟩

theorem nopF05 (w : Word) : Statement (.nopF05 w) :=
  fun h => ⟨table[75], List.getElem_mem (by decide), h, rfl⟩

theorem nopF06 (w : Word) : Statement (.nopF06 w) :=
  fun h => ⟨table[76], List.getElem_mem (by decide), h, rfl⟩

theorem nopF07 (w : Word) : Statement (.nopF07 w) :=
  fun h => ⟨table[77], List.getElem_mem (by decide), h, rfl⟩

theorem nopF08 (w : Word) : Statement (.nopF08 w) :=
  fun h => ⟨table[78], List.getElem_mem (by decide), h, rfl⟩

theorem nopF09 (w : Word) : Statement (.nopF09 w) :=
  fun h => ⟨table[79], List.getElem_mem (by decide), h, rfl⟩

theorem nopF10 (w : Word) : Statement (.nopF10 w) :=
  fun h => ⟨table[80], List.getElem_mem (by decide), h, rfl⟩

theorem nopF11 (w : Word) : Statement (.nopF11 w) :=
  fun h => ⟨table[81], List.getElem_mem (by decide), h, rfl⟩

theorem nopF12 (w : Word) : Statement (.nopF12 w) :=
  fun h => ⟨table[82], List.getElem_mem (by decide), h, rfl⟩

theorem nopF13 (w : Word) : Statement (.nopF13 w) :=
  fun h => ⟨table[83], List.getElem_mem (by decide), h, rfl⟩

theorem nopF14 (w : Word) : Statement (.nopF14 w) :=
  fun h => ⟨table[84], List.getElem_mem (by decide), h, rfl⟩

theorem nopF15 (w : Word) : Statement (.nopF15 w) :=
  fun h => ⟨table[85], List.getElem_mem (by decide), h, rfl⟩

theorem nopF16 (w : Word) : Statement (.nopF16 w) :=
  fun h => ⟨table[86], List.getElem_mem (by decide), h, rfl⟩

theorem nopF17 (w : Word) : Statement (.nopF17 w) :=
  fun h => ⟨table[87], List.getElem_mem (by decide), h, rfl⟩

theorem nopF18 (w : Word) : Statement (.nopF18 w) :=
  fun h => ⟨table[88], List.getElem_mem (by decide), h, rfl⟩

theorem nopF19 (w : Word) : Statement (.nopF19 w) :=
  fun h => ⟨table[89], List.getElem_mem (by decide), h, rfl⟩

theorem nopF20 (w : Word) : Statement (.nopF20 w) :=
  fun h => ⟨table[90], List.getElem_mem (by decide), h, rfl⟩

theorem nopF21 (w : Word) : Statement (.nopF21 w) :=
  fun h => ⟨table[91], List.getElem_mem (by decide), h, rfl⟩

theorem nopF22 (w : Word) : Statement (.nopF22 w) :=
  fun h => ⟨table[92], List.getElem_mem (by decide), h, rfl⟩

theorem nopF23 (w : Word) : Statement (.nopF23 w) :=
  fun h => ⟨table[93], List.getElem_mem (by decide), h, rfl⟩

theorem nopF24 (w : Word) : Statement (.nopF24 w) :=
  fun h => ⟨table[94], List.getElem_mem (by decide), h, rfl⟩

theorem nopF25 (w : Word) : Statement (.nopF25 w) :=
  fun h => ⟨table[95], List.getElem_mem (by decide), h, rfl⟩

theorem nopF26 (w : Word) : Statement (.nopF26 w) :=
  fun h => ⟨table[96], List.getElem_mem (by decide), h, rfl⟩

theorem nopF27 (w : Word) : Statement (.nopF27 w) :=
  fun h => ⟨table[97], List.getElem_mem (by decide), h, rfl⟩

theorem nopF28 (w : Word) : Statement (.nopF28 w) :=
  fun h => ⟨table[98], List.getElem_mem (by decide), h, rfl⟩

theorem nopF29 (w : Word) : Statement (.nopF29 w) :=
  fun h => ⟨table[99], List.getElem_mem (by decide), h, rfl⟩

theorem nopF30 (w : Word) : Statement (.nopF30 w) :=
  fun h => ⟨table[100], List.getElem_mem (by decide), h, rfl⟩

theorem nopF31 (w : Word) : Statement (.nopF31 w) :=
  fun h => ⟨table[101], List.getElem_mem (by decide), h, rfl⟩

theorem nopF32 (w : Word) : Statement (.nopF32 w) :=
  fun h => ⟨table[102], List.getElem_mem (by decide), h, rfl⟩

end Sys2Proof.Laws.EncodeAccepted
end

