-- ==== Sys2Proof/Laws/Step.lean ====
section
/-! SUPPORT. What a step can do, said once; and that a word placed by `withFetchWord` is the word the next step executes. -/

namespace Sys2Proof.Machine

/-- If a step answers a next state, the machine was running and one agent moved: the host, the tick, or the CPU, which found
the top of memory or executed one instruction. -/
theorem step_cases {s t : State} (h : step s = .next t) :
    s.status = .running ∧
    ((s.phase = .poll ∧ t = hostStep s) ∨
     (s.phase = .run ∧ s.ticksDue ≠ 0 ∧ t = tickStep s) ∨
     (s.cpuNext ∧ s.atEnd = true ∧ t = s.raise .endOfProgram) ∨
     (s.cpuNext ∧ s.atEnd = false ∧ ∃ u, exec (decode s.fetchWord) s.advance = .next u ∧ t = u.finish)) := by
  unfold step at h
  split at h
  case h_1 hs =>
    refine ⟨hs, ?_⟩
    split at h
    case h_1 hp => exact .inl ⟨hp, by simpa using h.symm⟩
    case h_2 hp =>
      refine .inr ?_
      split at h
      case isTrue ht =>
        refine .inr ?_
        unfold cpuStep at h
        split at h
        case isTrue he => exact .inl ⟨⟨hs, hp, ht⟩, he, by simpa using h.symm⟩
        case isFalse he => exact .inr ⟨⟨hs, hp, ht⟩, by simpa using he, finishOutcome_next h⟩
      case isFalse ht => exact .inl ⟨hp, ht, by simpa using h.symm⟩
  all_goals cases h

/-- The fetch guard in numbers (40_fetch_decode_execute.md rule R91). -/
theorem State.atEnd_iff (s : State) : s.atEnd = true ↔ 0xFFE ≤ s.pc.toNat := decide_eq_true_iff

/-- The fetch guard in numbers, where it lets the fetch through. -/
theorem State.atEnd_false_iff (s : State) : s.atEnd = false ↔ s.pc.toNat < 0xFFE :=
  decide_eq_false_iff_not.trans Nat.not_le

/-- A run of the host's interface goes on from the state a step gives. -/
theorem core_run_succ {s t : State} (h : step s = .next t) (n : Nat) :
    Host.Core.run Sys2Proof.core (n + 1) s = Host.Core.run Sys2Proof.core n t := by
  have h' : Sys2Proof.core.step s = .next t := h
  simp only [Host.Core.run, h']

/-- A CPU step below the fetch limit. -/
theorem step_cpu {s : State} (hc : s.cpuNext) (he : s.atEnd = false) :
    step s = finishOutcome (exec (decode s.fetchWord) s.advance) := by
  obtain ⟨hs, hp, ht⟩ := hc
  simp [step, hs, hp, ht, cpuStep, he]

theorem hi_lo_append (w : Word) : wordOfBytes (w.extractLsb' 8 8) (w.extractLsb' 0 8) = w := by
  apply BitVec.eq_of_getLsbD_eq
  intro i hi
  simp only [wordOfBytes, BitVec.getLsbD_append, BitVec.getLsbD_extractLsb']
  interval_cases i <;> simp

/-- The placed word is the one at `PC`. -/
theorem State.placeWord_fetchWord (s : State) (w : Word) : (s.placeWord w).fetchWord = w := by
  have h (m : Memory) (a : Nat) (hi lo : Byte) :
      (m.writeList a [hi, lo]).read a = hi ∧ (m.writeList a [hi, lo]).read (a + 1) = lo := by
    simp [Memory.writeList, Memory.read_write]
  simp only [State.fetchWord, State.placeWord]
  rw [(h _ _ _ _).1, (h _ _ _ _).2, hi_lo_append]

/-- The placed word is executed by the very next step, whatever the state was. -/
theorem State.placeWord_runsNext (s : State) (w : Word) : (s.placeWord w).runsNext (decode w) := by
  refine ⟨⟨rfl, rfl, rfl⟩, ?_, by rw [State.placeWord_fetchWord]⟩
  simp only [State.atEnd, State.placeWord]
  split
  · decide
  · next h => simpa using h

end Sys2Proof.Machine
end

