-- ==== Sys2Proof/Tests/Slice0.lean ====
section
/-! SUPPORT. The model's own tests. Expected results are the spec's: its worked examples, the encodings of
30_encoding.md rule R76, and the vectors of 95_test_vectors.md, whose names (TA12, TC7, ...) stand in the comments. -/

namespace Sys2Proof.Tests

open Sys2Proof.Machine

/-! ### WellFormed: each check refuses a word outside its cube -/

theorem test_wellFormed_refuses_family_0 :
    ([
    .nop001 0x6000, .nop002 0x6000, .nop003 0x6000, .nop004 0x6000, .nop005 0x6000, .nop006 0x6000,
    .nop007 0x6000, .nop008 0x6000, .nop009 0x6000, .nop010 0x6000, .nop011 0x6000, .nop012 0x6000,
    .nop013 0x6000, .nop014 0x6000] :
    List Instr).all (fun i => !i.wellFormed) = true := by decide

theorem test_wellFormed_refuses_family_5 :
    ([
    .nop501 0x6000, .nop502 0x6000, .nop503 0x6000, .nop504 0x6000] :
    List Instr).all (fun i => !i.wellFormed) = true := by decide

theorem test_wellFormed_refuses_family_9 :
    ([
    .nop901 0x6000, .nop902 0x6000, .nop903 0x6000, .nop904 0x6000] :
    List Instr).all (fun i => !i.wellFormed) = true := by decide

theorem test_wellFormed_refuses_family_8 :
    ([
    .nop801 0x6000, .nop802 0x6000, .nop803 0x6000] :
    List Instr).all (fun i => !i.wellFormed) = true := by decide

theorem test_wellFormed_refuses_family_E :
    ([
    .nopE01 0x6000, .nopE02 0x6000, .nopE03 0x6000, .nopE04 0x6000, .nopE05 0x6000, .nopE06 0x6000,
    .nopE07 0x6000, .nopE08 0x6000, .nopE09 0x6000, .nopE10 0x6000, .nopE11 0x6000, .nopE12 0x6000] :
    List Instr).all (fun i => !i.wellFormed) = true := by decide

theorem test_wellFormed_refuses_family_F :
    ([
    .nopF01 0x6000, .nopF02 0x6000, .nopF03 0x6000, .nopF04 0x6000, .nopF05 0x6000, .nopF06 0x6000,
    .nopF07 0x6000, .nopF08 0x6000, .nopF09 0x6000, .nopF10 0x6000, .nopF11 0x6000, .nopF12 0x6000,
    .nopF13 0x6000, .nopF14 0x6000, .nopF15 0x6000, .nopF16 0x6000, .nopF17 0x6000, .nopF18 0x6000,
    .nopF19 0x6000, .nopF20 0x6000, .nopF21 0x6000, .nopF22 0x6000, .nopF23 0x6000, .nopF24 0x6000,
    .nopF25 0x6000, .nopF26 0x6000, .nopF27 0x6000, .nopF28 0x6000, .nopF29 0x6000, .nopF30 0x6000,
    .nopF31 0x6000, .nopF32 0x6000] :
    List Instr).all (fun i => !i.wellFormed) = true := by decide

/-- Words one bit away, which are recognised forms (CLS, RET, SE, SHL, SNE, SKP, SKNP, FX07, FX65). -/
theorem test_wellFormed_refuses_neighbours :
    ([.nop004 0x00E0, .nop008 0x00EE, .nop009 0x00EE, .nop501 0x5120, .nop803 0x812E, .nop901 0x9120, .nopE06 0xE19E,
      .nopE07 0xE1A1, .nopF03 0xF107, .nopF28 0xF165] : List Instr).all (fun i => !i.wellFormed) = true := by decide

/-- In the cubes. -/
theorem test_wellFormed_accepts :
    ([.nop001 0x0000, .nop504 0x5FFF, .nop803 0x800F, .nopE12 0xEFFF, .nopF32 0xF185, .drw 15 15 15] : List Instr).all
      Instr.wellFormed = true := by decide

/-! ### Decoding: every constructor by a word written out from its encoding -/

/-- 30_encoding.md rule R76, rows 1 to 10: X = 1, Y = 2 or X = A, NN = 2F, NNN = 234. -/
theorem test_decode_forms_low :
    [0x00E0, 0x00EE, 0x1234, 0x2234, 0x3A2F, 0x4A2F, 0x5120, 0x9120, 0x6A2F, 0x7A2F].map decode =
      [.cls, .ret, .jp 0x234, .call 0x234, .seImm 0xA 0x2F, .sneImm 0xA 0x2F, .seReg 1 2, .sneReg 1 2, .ldImm 0xA 0x2F,
       .addImm 0xA 0x2F] := by decide

/-- Rule R76, rows 11 to 19. -/
theorem test_decode_forms_alu :
    [0x8120, 0x8121, 0x8122, 0x8123, 0x8124, 0x8125, 0x8126, 0x8127, 0x812E].map decode =
      [.ldReg 1 2, .orReg 1 2, .andReg 1 2, .xorReg 1 2, .addReg 1 2, .sub 1 2, .shr 1 2, .subn 1 2, .shl 1 2] := by decide

/-- Rule R76, rows 20 to 34. -/
theorem test_decode_forms_high :
    [0xA234, 0xB234, 0xCA2F, 0xD125, 0xE59E, 0xE5A1, 0xF307, 0xF315, 0xF30A, 0xF318, 0xF31E, 0xF329, 0xF333, 0xF355,
     0xF365].map decode =
      [.ldI 0x234, .jpV0 0x234, .rnd 0xA 0x2F, .drw 1 2 5, .skp 5, .sknp 5, .ldVxDt 3, .ldDtVx 3, .ldVxK 3, .ldStVx 3,
       .addI 3, .ldF 3, .ldB 3, .ldMemVx 3, .ldVxMem 3] := by decide

/-- The NOP rows of family 0 (R170), a word of each row's encoding. -/
theorem test_decode_nops_0 :
    [
    0x0055, 0x00AA, 0x00D5, 0x00E1, 0x00E3, 0x00E6, 0x00EA, 0x00ED, 0x00EF, 0x00FA, 0x01AA, 0x0355, 0x06AA,
    0x0D55].map decode =
    [
    .nop001 0x0055, .nop002 0x00AA, .nop003 0x00D5, .nop004 0x00E1, .nop005 0x00E3, .nop006 0x00E6,
    .nop007 0x00EA, .nop008 0x00ED, .nop009 0x00EF, .nop010 0x00FA, .nop011 0x01AA, .nop012 0x0355,
    .nop013 0x06AA, .nop014 0x0D55] := by decide

/-- The NOP rows of family 5 (R171), a word of each row's encoding. -/
theorem test_decode_nops_5 :
    [
    0x5AA1, 0x5AA3, 0x5AA6, 0x5AAD].map decode =
    [
    .nop501 0x5AA1, .nop502 0x5AA3, .nop503 0x5AA6, .nop504 0x5AAD] := by decide

/-- The NOP rows of family 9 (R173), a word of each row's encoding. -/
theorem test_decode_nops_9 :
    [
    0x9AA1, 0x9AA3, 0x9AA6, 0x9AAD].map decode =
    [
    .nop901 0x9AA1, .nop902 0x9AA3, .nop903 0x9AA6, .nop904 0x9AAD] := by decide

/-- The NOP rows of family 8 (R172), a word of each row's encoding. -/
theorem test_decode_nops_8 :
    [
    0x8AAA, 0x8AAD, 0x8AAF].map decode =
    [
    .nop801 0x8AAA, .nop802 0x8AAD, .nop803 0x8AAF] := by decide

/-- The NOP rows of family E (R174), a word of each row's encoding. -/
theorem test_decode_nops_E :
    [
    0xEA55, 0xEA8A, 0xEA95, 0xEA9A, 0xEA9D, 0xEA9F, 0xEAA0, 0xEAA3, 0xEAA6, 0xEAAD, 0xEABA, 0xEAEA].map decode =
    [
    .nopE01 0xEA55, .nopE02 0xEA8A, .nopE03 0xEA95, .nopE04 0xEA9A, .nopE05 0xEA9D, .nopE06 0xEA9F,
    .nopE07 0xEAA0, .nopE08 0xEAA3, .nopE09 0xEAA6, .nopE10 0xEAAD, .nopE11 0xEABA, .nopE12 0xEAEA] := by decide

/-- The NOP rows of family F (R175), a word of each row's encoding. -/
theorem test_decode_nops_F :
    [
    0xFA02, 0xFA05, 0xFA06, 0xFA09, 0xFA0B, 0xFA0E, 0xFA12, 0xFA14, 0xFA17, 0xFA19, 0xFA1B, 0xFA1D, 0xFA1F,
    0xFA25, 0xFA28, 0xFA2B, 0xFA2E, 0xFA31, 0xFA32, 0xFA36, 0xFA3D, 0xFA4A, 0xFA52, 0xFA54, 0xFA57, 0xFA5D,
    0xFA62, 0xFA64, 0xFA67, 0xFA6D, 0xFA7A, 0xFAD5].map decode =
    [
    .nopF01 0xFA02, .nopF02 0xFA05, .nopF03 0xFA06, .nopF04 0xFA09, .nopF05 0xFA0B, .nopF06 0xFA0E,
    .nopF07 0xFA12, .nopF08 0xFA14, .nopF09 0xFA17, .nopF10 0xFA19, .nopF11 0xFA1B, .nopF12 0xFA1D,
    .nopF13 0xFA1F, .nopF14 0xFA25, .nopF15 0xFA28, .nopF16 0xFA2B, .nopF17 0xFA2E, .nopF18 0xFA31,
    .nopF19 0xFA32, .nopF20 0xFA36, .nopF21 0xFA3D, .nopF22 0xFA4A, .nopF23 0xFA52, .nopF24 0xFA54,
    .nopF25 0xFA57, .nopF26 0xFA5D, .nopF27 0xFA62, .nopF28 0xFA64, .nopF29 0xFA67, .nopF30 0xFA6D,
    .nopF31 0xFA7A, .nopF32 0xFAD5] := by decide

/-- The near misses of 46_unrecognised.md rule R170 and 95_test_vectors.md section 2.7. -/
theorem test_decode_near_misses :
    [0x0000, 0x00E1, 0x00EF, 0x01E0, 0x0EE0, 0x5121, 0x8128, 0x812F, 0x9125, 0xE19F, 0xF108, 0xF130].all
      (fun w => !(decode w).recognised) = true := by decide

/-- TF1: big-endian, `1234` and not `3412`; one byte is not an instruction. -/
theorem test_decodeBytes :
    decodeBytes [0x12, 0x34, 0x56] = .ok (.jp 0x234, [0x56]) ∧ decodeBytes [0x12] = .error .truncated ∧
    encodeBytes (.jp 0x234) = [0x12, 0x34] := ⟨rfl, rfl, rfl⟩

theorem test_decodeTableWord : decodeTableWord 16 0xD015 = some (.drw 0 1 5) ∧ decodeTableWord 16 0x00EE = some .ret := by
  decide

/-! ### One step on a small state -/

/-- The machine at 0x200 about to take a CPU step, with some registers set. -/
def withRegs (rs : List (Nibble × Byte)) : State :=
  rs.foldl (fun s r => s.setV r.1 r.2) { State.reset with phase := .run }

/-- The state after the one step that executes the word placed at `PC`. -/
def after (s : State) (w : Word) : State :=
  match step (s.placeWord w) with
  | .next t    => t
  | .fault _   => s
  | .refused _ => s

/-- TG1, and one more presentation beside the loop's (40_fetch_decode_execute.md rule R95). -/
theorem test_cls :
    let t := after { withRegs [] with disp := Display.blank.toggle 3 4 } 0x00E0
    t.disp.pixel 3 4 = false ∧ t.presents = 2 := by decide

/-- TC8, TC10. -/
theorem test_ret :
    let t := after { withRegs [] with sp := 3, stack := ((State.reset.stack.set 3 0x0ABC).set 2 0x0456) } 0x00EE
    t.pc = 0x0ABC ∧ t.sp = 2 ∧ t.stack[3] = 0x0ABC := by decide

/-- TC9: STATUS, SP, post-fetch PC, nothing presented. -/
theorem test_ret_underflow :
    let t := after (withRegs []) 0x00EE
    t.status = .faulted .stackUnderflow ∧ t.sp = 0 ∧ t.pc = 0x0202 ∧ t.presents = 0 := by decide

/-- TC1, TC2. -/
theorem test_jp : (after (withRegs []) 0x1234).pc = 0x0234 ∧ (after (withRegs []) 0x1201).pc = 0x0201 := by decide

/-- TC5, TC6. -/
theorem test_call :
    (let t := after { withRegs [] with pc := 0x204 } 0x2210
     t.sp = 1 ∧ t.stack[1] = 0x0206 ∧ t.pc = 0x0210 ∧ t.stack[0] = 0) ∧
    (let t := after { withRegs [] with pc := 0x2F0, sp := 14 } 0x2300
     t.sp = 15 ∧ t.stack[15] = 0x02F2 ∧ t.pc = 0x0300) := by decide

/-- TC7. -/
theorem test_call_overflow :
    let t := after { withRegs [] with pc := 0x2F0, sp := 15 } 0x2300
    t.status = .faulted .stackOverflow ∧ t.sp = 15 ∧ t.pc = 0x02F2 ∧ t.stack[15] = 0 := by decide

/-- TC11, TC12. -/
theorem test_seImm :
    (after (withRegs [(0xA, 0x2F)]) 0x3A2F).pc = 0x0204 ∧ (after (withRegs [(0xA, 0x2E)]) 0x3A2F).pc = 0x0202 := by decide

/-- TC13, TC14. -/
theorem test_sneImm :
    (after (withRegs [(0xA, 0x2F)]) 0x4A2F).pc = 0x0202 ∧ (after (withRegs [(0xA, 0x2E)]) 0x4A2F).pc = 0x0204 := by decide

/-- TC15, TC16. -/
theorem test_seReg :
    (after (withRegs [(1, 7), (2, 7)]) 0x5120).pc = 0x0204 ∧ (after (withRegs [(1, 7), (2, 8)]) 0x5120).pc = 0x0202 := by
  decide

/-- TC18, TC19. -/
theorem test_sneReg :
    (after (withRegs [(1, 7), (2, 8)]) 0x9120).pc = 0x0204 ∧ (after (withRegs [(1, 7), (2, 7)]) 0x9120).pc = 0x0202 := by
  decide

/-- TC22, TC23: the nibble 3 selects no register; the sum is not reduced. -/
theorem test_jpV0 :
    (after (withRegs [(0, 4), (3, 0x55)]) 0xB300).pc = 0x0304 ∧ (after (withRegs [(0, 0xFF)]) 0xBFFF).pc = 0x10FE := by
  decide

/-- TA1. -/
theorem test_ldImm :
    let t := after (withRegs [(0xF, 0xAA)]) 0x6A2F
    t.getV 0xA = 0x2F ∧ t.getV 0xF = 0xAA := by decide

/-- TA3, TA6. -/
theorem test_addImm :
    (let t := after (withRegs [(3, 0xFF), (0xF, 0xAA)]) 0x7302
     t.getV 3 = 0x01 ∧ t.getV 0xF = 0xAA) ∧ (after (withRegs [(0xF, 0xF8)]) 0x7F10).getV 0xF = 0x08 := by decide

/-- TA7. -/
theorem test_ldReg :
    let t := after (withRegs [(2, 0x5A), (0xF, 0xAA)]) 0x8120
    t.getV 1 = 0x5A ∧ t.getV 2 = 0x5A ∧ t.getV 0xF = 0xAA := by decide

/-- TA8, TA9, TA10. -/
theorem test_logic :
    (after (withRegs [(1, 0xF0), (2, 0x0F)]) 0x8121).getV 1 = 0xFF ∧
    (after (withRegs [(1, 0xF3), (2, 0x3C)]) 0x8122).getV 1 = 0x30 ∧
    (let t := after (withRegs [(1, 0xFF), (2, 0x0F), (0xF, 0xAA)]) 0x8123
     t.getV 1 = 0xF0 ∧ t.getV 0xF = 0xAA) := by decide

/-- TA12, TA16. -/
theorem test_addReg :
    (let t := after (withRegs [(1, 0xFF), (2, 0x01)]) 0x8124
     t.getV 1 = 0x00 ∧ t.getV 0xF = 1) ∧
    (let t := after (withRegs [(1, 0xFE), (2, 0x01), (0xF, 0xAA)]) 0x8124
     t.getV 1 = 0xFF ∧ t.getV 0xF = 0) := by decide

/-- TA19, TA20: X = F and Y = F. -/
theorem test_addReg_vf :
    (after (withRegs [(0xF, 0xF0), (1, 0x20)]) 0x8F14).getV 0xF = 1 ∧
    (let t := after (withRegs [(1, 0x10), (0xF, 0x05)]) 0x81F4
     t.getV 1 = 0x15 ∧ t.getV 0xF = 0) := by decide

/-- TA23, TA24. -/
theorem test_sub :
    (let t := after (withRegs [(1, 0x03), (2, 0x05)]) 0x8125
     t.getV 1 = 0xFE ∧ t.getV 0xF = 1) ∧
    (let t := after (withRegs [(1, 0x07), (2, 0x07), (0xF, 0xAA)]) 0x8125
     t.getV 1 = 0x00 ∧ t.getV 0xF = 0) := by decide

/-- TA35, TA39: Y ignored, zero fill. -/
theorem test_shr :
    (let t := after (withRegs [(1, 0x03), (2, 0x77)]) 0x8126
     t.getV 1 = 0x01 ∧ t.getV 0xF = 1 ∧ t.getV 2 = 0x77) ∧ (after (withRegs [(1, 0xFF)]) 0x8126).getV 1 = 0x7F := by decide

/-- TA30, TA31. -/
theorem test_subn :
    (let t := after (withRegs [(1, 0x03), (2, 0x05)]) 0x8127
     t.getV 1 = 0x02 ∧ t.getV 0xF = 0 ∧ t.getV 2 = 0x05) ∧
    (let t := after (withRegs [(1, 0x05), (2, 0x03)]) 0x8127
     t.getV 1 = 0xFE ∧ t.getV 0xF = 1) := by decide

/-- TA43, TA50. -/
theorem test_shl :
    (let t := after (withRegs [(1, 0x81), (2, 0x77)]) 0x812E
     t.getV 1 = 0x02 ∧ t.getV 0xF = 1 ∧ t.getV 2 = 0x77) ∧ (after (withRegs [(0xF, 0x40)]) 0x8F1E).getV 0xF = 0 := by decide

/-- TA52: the mask 0 gives 0 for every random byte. -/
theorem test_rnd_zero_mask (s t : State) (h : exec (.rnd 1 0x00) s = .next t) : t.getV 1 = 0 := by
  cases h
  simp

/-- TM1, TM2. -/
theorem test_ldI :
    (after { withRegs [] with i := 0xFFFF } 0xA300).i = 0x0300 ∧ (after (withRegs []) 0xAFFF).i = 0x0FFF := by decide

/-- TM4, TM6. -/
theorem test_addI :
    (let t := after { withRegs [(1, 1), (0xF, 0xAA)] with i := 0x0FFF } 0xF11E
     t.i = 0x1000 ∧ t.getV 0xF = 0xAA) ∧ (after { withRegs [(1, 2)] with i := 0xFFFF } 0xF11E).i = 0x0001 := by decide

/-- TM8, TM9. -/
theorem test_ldF :
    (after (withRegs [(2, 0x0A)]) 0xF229).i = 0x0032 ∧ (after (withRegs [(2, 0x1F)]) 0xF229).i = 0x004B := by decide

/-- TM12, TM21: `I` is reduced at the access only, and the font can be overwritten. -/
theorem test_ldB :
    (let t := after { withRegs [(1, 0xFF)] with i := 0x300 } 0xF133
     t.mem.read 0x300 = 2 ∧ t.mem.read 0x301 = 5 ∧ t.mem.read 0x302 = 5) ∧
    (let t := after { withRegs [(1, 0x7B)] with i := 0x1FFE } 0xF133
     t.mem.read 0xFFE = 1 ∧ t.mem.read 0xFFF = 2 ∧ t.mem.read 0x000 = 3 ∧ t.i = 0x1FFE) := by decide

/-- TM22, TM25. -/
theorem test_ldMemVx :
    (let t := after { withRegs [(0, 0x11), (1, 0x22), (2, 0x33), (3, 0x44)] with i := 0x300 } 0xF255
     t.mem.read 0x300 = 0x11 ∧ t.mem.read 0x302 = 0x33 ∧ t.mem.read 0x303 = 0 ∧ t.i = 0x300) ∧
    (let t := after { withRegs [(0, 0xAB), (1, 0xCD)] with i := 0xFFF } 0xF155
     t.mem.read 0xFFF = 0xAB ∧ t.mem.read 0 = 0xCD) := by decide

/-- TM28, TM30 (the byte at 0xFFF is 0 here). -/
theorem test_ldVxMem :
    (let t := after (withRegs [(5, 0x99)]) 0xF465
     t.getV 0 = 0xF0 ∧ t.getV 3 = 0x90 ∧ t.getV 4 = 0xF0 ∧ t.getV 5 = 0x99) ∧
    (let t := after { withRegs [(0, 0x11)] with i := 0xFFF } 0xF165
     t.getV 0 = 0 ∧ t.getV 1 = 0xF0) := by decide

/-- TG4: glyph 0 at the top left. -/
theorem test_drw_glyph :
    let t := after (withRegs []) 0xD015
    t.disp.pixel 0 0 = true ∧ t.disp.pixel 3 0 = true ∧ t.disp.pixel 4 0 = false ∧ t.disp.pixel 1 1 = false ∧
    t.disp.pixel 3 2 = true ∧ t.disp.pixel 2 4 = true ∧ t.disp.pixel 0 5 = false := by decide

/-- TG11, TG12: the row read wraps; a lit pixel goes dark and `VF` is left alone. -/
theorem test_drw_wrap_and_vf :
    let lit := { withRegs [(0xF, 0xAA)] with i := 0xFFF, disp := Display.blank.toggle 0 0 }
    let t := after (lit.memWrite 0xFFF 0x80) 0xD012
    t.disp.pixel 0 0 = false ∧ t.disp.pixel 3 1 = true ∧ t.disp.pixel 4 1 = false ∧ t.getV 0xF = 0xAA ∧ t.presents = 2 := by
  decide

/-- TK1, TK2, TK5. -/
theorem test_skp :
    (after { withRegs [(5, 0x0A)] with keys := 0x0400 } 0xE59E).pc = 0x0204 ∧
    (after { withRegs [(5, 0x0A)] with keys := 0xFBFF } 0xE59E).pc = 0x0202 ∧
    (after { withRegs [(5, 0x1A)] with keys := 0x0400 } 0xE59E).pc = 0x0204 := by decide

/-- TK3, TK4. -/
theorem test_sknp :
    (after { withRegs [(5, 0x0A)] with keys := 0xFBFF } 0xE5A1).pc = 0x0204 ∧
    (after { withRegs [(5, 0x0A)] with keys := 0x0400 } 0xE5A1).pc = 0x0202 := by decide

/-- TK7, TK8. -/
theorem test_timer :
    (let t := after { withRegs [] with dt := 0x2A } 0xF307
     t.getV 3 = 0x2A ∧ t.dt = 0x2A) ∧
    (let t := after (withRegs [(2, 0x3C)]) 0xF215
     t.dt = 0x3C ∧ t.getV 2 = 0x3C) := by decide

/-- TK17, TK18. -/
theorem test_placeholders :
    (let t := after { withRegs [(1, 0x33)] with keys := 0xFFFF } 0xF10A
     t.getV 1 = 0x33 ∧ t.pc = 0x0202) ∧
    (let t := after { withRegs [(3, 0x40)] with dt := 9 } 0xF318
     t.dt = 9 ∧ t.getV 3 = 0x40 ∧ t.pc = 0x0202) := by decide

/-- Section 2.7: nothing but `PC` moves, and `5121` with V1 = V2 does not skip. -/
theorem test_unrecognised :
    ([0x0000, 0x00EF, 0x5121, 0x812F, 0x9125, 0xE100, 0xF130, 0xF1FF].all fun w =>
      let t := after (withRegs [(1, 7), (2, 7)]) w
      t.pc == 0x0202 && t.status == .running && t.sp == 0 && t.i == 0 && t.getV 1 == 7) = true := by decide

/-- TF3, TF6. -/
theorem test_endOfProgram :
    step { withRegs [] with pc := 0xFFE } = .next { withRegs [] with pc := 0xFFE, status := .ended } ∧
    step { withRegs [] with pc := 0x10FE } = .next { withRegs [] with pc := 0x10FE, status := .ended } := ⟨rfl, rfl⟩

/-- TF4: the last odd address that fetches. -/
theorem test_fetch_at_top :
    let t := after { withRegs [] with pc := 0xFFD } 0x6B01
    t.getV 0xB = 1 ∧ t.pc = 0x0FFF ∧ t.status = .running := by decide

/-- TK10, TK12. -/
theorem test_tick : tickDown 5 = 4 ∧ tickDown 0 = 0 := by decide

/-- TM31: the word stored at 0x208 is the next one fetched. -/
theorem test_selfModify :
    (after { withRegs [(0, 0x12), (1, 0x0C)] with pc := 0x206, i := 0x208 } 0xF155).fetchWord = 0x120C := by decide

/-- TZ1: an image of two bytes. -/
theorem test_load :
    (match loadImage [0x12, 0x00] with
     | .ok s    => s.pc == 0x200 && s.mem.read 0 == 0xF0 && s.mem.read 0x4E == 0x80 && s.mem.read 0x50 == 0 &&
                   s.mem.read 0x200 == 0x12 && s.mem.read 0x201 == 0 && s.fetchWord == 0x1200
     | .error _ => false) = true := by decide

/-- TZ4: 3585 bytes are refused. -/
theorem test_load_too_long : loadImage (List.replicate 3585 0) = .error .imageTooLong := by
  unfold loadImage
  exact if_neg (by rw [List.length_replicate]; decide)

/-- 60_exceptions.md rule R180: the codes in taxonomy order. -/
theorem test_condition_codes :
    [Condition.endOfProgram, .stackUnderflow, .stackOverflow, .unrecognizedSubopcode].map Condition.code = [1, 2, 3, 4] :=
  rfl

/-! ### Witnesses: a state and operands that meet the hypotheses of each statement -/

theorem witness_DecodeOfEncode :
    (Instr.addReg 0xF 0xF).wellFormed = true ∧ (Instr.nopF32 0xFFFF).wellFormed = true := by decide

theorem witness_StepRunsDecodedInstruction :
    let s := (withRegs []).placeWord 0x6A2F
    s.status = .running ∧ s.phase = .run ∧ s.ticksDue = 0 ∧ s.pc.toNat < 0xFFE ∧
    decode (s.mem.read s.pc.toNat ++ s.mem.read (s.pc.toNat + 1)) = .ldImm 0xA 0x2F := by decide

theorem witness_EndOfProgramAtTopOfMemory :
    let s := { withRegs [] with pc := 0xFFE }
    s.status = .running ∧ s.phase = .run ∧ s.ticksDue = 0 ∧ 0xFFE ≤ s.pc.toNat := by decide

theorem witness_StoppedMachineTakesNoStep :
    ({ State.reset with status := .ended } : State).status = .ended ∧
    ({ State.reset with status := .faulted .stackUnderflow } : State).status = .faulted .stackUnderflow ∧
    ({ State.reset with status := .faulted .stackOverflow } : State).status = .faulted .stackOverflow ∧
    ({ State.reset with status := .quit } : State).status = .quit := ⟨rfl, rfl, rfl, rfl⟩

theorem witness_HostPollsBetweenSteps : State.reset.status = .running ∧ State.reset.phase = .poll := ⟨rfl, rfl⟩

theorem witness_TickDecrementsCountdown :
    let s := { withRegs [] with ticksDue := 2, dt := 0 }
    s.status = .running ∧ s.phase = .run ∧ s.ticksDue ≠ 0 := by decide

theorem witness_TicksSubtractMinimum :
    let s := { withRegs [] with ticksDue := 3, dt := 2 }
    s.status = .running ∧ s.phase = .run ∧ s.ticksDue = 3 := by decide

theorem placed_runsNext (s : State) (w : Word) (i : Instr) (h : decode w = i) : (s.placeWord w).runsNext i := by
  rw [← h]
  exact State.placeWord_runsNext s w

theorem placed_not_runsNext (s : State) (w : Word) (i : Instr) (h : decode w ≠ i) : ¬ (s.placeWord w).runsNext i := by
  intro hr
  exact h ((congrArg decode (State.placeWord_fetchWord s w)).symm.trans hr.2.2)

/-- Both clauses: a step that runs `F215`, and one that does not run `FX15`. -/
theorem witness_TimerOnlyFallsBetweenArmings :
    ((∃ t, step ((withRegs []).placeWord 0xF215) = .next t) ∧ ((withRegs []).placeWord 0xF215).runsNext (.ldDtVx 2)) ∧
    (∃ t, step ((withRegs []).placeWord 0xF115 |>.placeWord 0x6A2F) = .next t) ∧
    ∀ x, ¬ ((withRegs []).placeWord 0xF115 |>.placeWord 0x6A2F).runsNext (.ldDtVx x) :=
  ⟨⟨⟨_, rfl⟩, placed_runsNext _ _ _ (by decide)⟩, ⟨_, rfl⟩,
    fun x => placed_not_runsNext _ _ _ (by rw [show decode 0x6A2F = .ldImm 0xA 0x2F by decide]; exact Instr.noConfusion)⟩

/-- Three of the four ways; the fourth, the host's quit, is a free value. -/
theorem witness_RunEndsInFourWaysOnly :
    (∃ t, step { withRegs [] with pc := 0xFFE } = .next t ∧ t.status ≠ .running) ∧
    (∃ t, step ((withRegs []).placeWord 0x00EE) = .next t ∧ t.status ≠ .running) ∧
    (∃ t, step (({ withRegs [] with sp := 15 } : State).placeWord 0x2200) = .next t ∧ t.status ≠ .running) :=
  ⟨⟨_, rfl, by decide⟩, ⟨_, rfl, by decide⟩, ⟨_, rfl, by decide⟩⟩

theorem witness_MemoryChangesByStoresOnly :
    (∃ t, step ((withRegs []).placeWord 0x6A2F) = .next t) ∧
    (∀ x, ¬ ((withRegs []).placeWord 0x6A2F).runsNext (.ldB x)) ∧
    ∀ x, ¬ ((withRegs []).placeWord 0x6A2F).runsNext (.ldMemVx x) :=
  ⟨⟨_, rfl⟩,
    fun x => placed_not_runsNext _ _ _ (by rw [show decode 0x6A2F = .ldImm 0xA 0x2F by decide]; exact Instr.noConfusion),
    fun x => placed_not_runsNext _ _ _ (by rw [show decode 0x6A2F = .ldImm 0xA 0x2F by decide]; exact Instr.noConfusion)⟩

theorem witness_PcAdvancesByTwoUnlessOverridden :
    ((withRegs []).placeWord 0x1234).runsNext (.jp 0x234) ∧ ∃ t, step ((withRegs []).placeWord 0x1234) = .next t :=
  ⟨placed_runsNext _ _ _ (by decide), ⟨_, rfl⟩⟩

theorem witness_RegistersWrittenByTheirWritersOnly :
    (∃ t, exec (.addReg 1 2) State.reset = .next t) ∧ mayWrite 0xE (.addReg 1 2) = false := ⟨⟨_, rfl⟩, rfl⟩

/-- The guarded clauses of the statements about flags and about results: X is not F, and R is neither X nor F. -/
theorem witness_flag_clauses : (0xE : Nibble) ≠ vf ∧ (0 : Nibble) ≠ 0xE ∧ (0 : Nibble) ≠ vf := by decide

/-- The guarded clause of RandomByteIsMasked in both directions. -/
theorem witness_RandomByteIsMasked : (0xA5 : Byte) &&& ~~~0xA5 = 0 ∧ (0xA5 : Byte) = 0xA5 &&& 0xFF := by decide

theorem witness_LoadIndexZeroExtends : 12 ≤ 12 ∧ 12 ≤ 15 := by decide

/-- An address outside the three stored ones, across the top of memory, and two of the three. -/
theorem witness_StoreDecimalDigits :
    (∀ k < 3, 0x001 ≠ ({ State.reset with i := 0xFFE } : State).dataAddr k % 4096) ∧ 0 < 2 ∧ 2 < 3 := by decide

/-- An address outside the stored block, and the last stored one. -/
theorem witness_StoreBlockOfRegisters :
    (∀ k ≤ (0xF : Nibble).toNat, 0x00F ≠ ({ State.reset with i := 0xFFF } : State).dataAddr k % 4096) ∧
    (15 : Nat) ≤ (0xF : Nibble).toNat := by decide

theorem witness_LoadBlockOfRegisters : (0xE : Nibble) ≤ 0xE ∧ (0xE : Nibble) < 0xF := by decide

theorem witness_StoreIsSeenByNextFetch :
    let s := { withRegs [] with pc := 0xFFD, i := 0xFFD }
    (1 : Nibble) ≠ 0 ∧ s.i = s.pc ∧ s.pc.toNat < 0xFFE := by decide

theorem witness_JumpSetsPc : 0xFFE ≤ (0xFFE : Addr12).toNat := by decide

theorem witness_SkipOnRegisters : (3 : Nibble) = 3 := rfl

theorem witness_CallPushesReturnAddress : ({ State.reset with sp := 14 } : State).sp.val < 15 := by decide

theorem witness_CallAtDepthFifteenOverflows : ({ State.reset with sp := 15 } : State).sp.val = 15 := rfl

theorem witness_ReturnPopsReturnAddress : 0 < ({ State.reset with sp := 1 } : State).sp.val := by decide

theorem witness_ReturnOnEmptyStackUnderflows :
    State.reset.sp.val = 0 ∧ ({ State.reset with sp := 1 } : State).sp.val ≠ 0 := by decide

theorem witness_UnrecognisedZeroFiveNineDoNothing :
    ((0x0000 : Word).toNat / 4096 = 0 ∧ (0x0000 : Word) ≠ 0x00E0 ∧ (0x0000 : Word) ≠ 0x00EE) ∧
    ((0x5121 : Word).toNat / 4096 = 5 ∧ (0x5121 : Word).toNat % 16 ≠ 0) ∧
    ((0x912F : Word).toNat / 4096 = 9 ∧ (0x912F : Word).toNat % 16 ≠ 0) ∧
    (.nop001 0 : Instr) ∈ ([.nop001 0] : List Instr) := by decide

theorem witness_UnrecognisedEightDoesNothing :
    (0x812F : Word).toNat / 4096 = 8 ∧ (0x812F : Word).toNat % 16 ∈ [0x8, 0x9, 0xA, 0xB, 0xC, 0xD, 0xF] := by decide

theorem witness_UnrecognisedEDoesNothing :
    (0xE1A0 : Word).toNat / 4096 = 0xE ∧ (0xE1A0 : Word).toNat % 256 ∉ [0x9E, 0xA1] := by decide

theorem witness_UnrecognisedFDoesNothing :
    (0xF156 : Word).toNat / 4096 = 0xF ∧
    (0xF156 : Word).toNat % 256 ∉ [0x07, 0x0A, 0x15, 0x18, 0x1E, 0x29, 0x33, 0x55, 0x65] := by decide

/-- The longest image that loads and the shortest that does not (TZ3, TZ4), and an address of each guarded clause. -/
theorem witness_ImageLoadsAtProgramBase :
    (List.replicate 3584 (0 : Byte)).length ≤ 3584 ∧ 3584 < (List.replicate 3585 (0 : Byte)).length ∧
    3583 < (List.replicate 3584 (0 : Byte)).length ∧ 0x1FF < 0x200 := by
  simp only [List.length_replicate]
  decide

/-- Both clauses on memory at their boundary, with the last font byte and the byte after it. -/
theorem witness_ResetLeavesTheStatedValues :
    79 < 80 ∧ 80 ≤ 80 ∧ State.reset.mem.read 79 = 0x80 ∧ State.reset.mem.read 80 = 0 := by decide

/-- The bounded clauses on single bits: the top bit. -/
theorem witness_LogicOperationsLeaveFlagAlone : 7 < 8 := by decide

/-- One state for the three invariants, from which a step goes on. -/
theorem witness_StepKeepsTheInvariants :
    (withRegs []).MemInv ∧ (withRegs []).ControlInv ∧ (withRegs []).ShownInv ∧ ∃ t, step (withRegs []) = .next t :=
  ⟨State.reset_mem_wf, ⟨by decide, fun k h1 h2 => absurd (Nat.lt_of_lt_of_le h1 h2) (by decide), rfl⟩, rfl, ⟨_, rfl⟩⟩

/-- The bounds of the control invariant are met: `PC` at 0x10FE, return addresses 0x0002 and 0x0FFF held. -/
theorem witness_ControlInv_bounds :
    ({ State.reset with pc := 0x10FE, sp := 2, stack := (State.reset.stack.set 1 0x0002).set 2 0x0FFF } : State).ControlInv := by
  refine ⟨by decide, ?_, rfl⟩
  decide

end Sys2Proof.Tests
end

section
/-! The word of two bytes in memory: its value, and which byte holds which field (20_memory.md rule R50). -/

namespace Sys2Proof

theorem wordOfBytes_toNat (hi lo : Byte) : (wordOfBytes hi lo).toNat = 256 * hi.toNat + lo.toNat := by
  rw [wordOfBytes, BitVec.toNat_append, ← Nat.shiftLeft_add_eq_or_of_lt lo.isLt, Nat.shiftLeft_eq, Nat.mul_comm]

/-- The family and the field X are adjacent: together they are the high byte. -/
theorem family_append_fieldX (w : Word) : family w ++ fieldX w = w.extractLsb' 8 8 :=
  BitVec.extractLsb'_append_extractLsb'_eq_extractLsb' rfl

theorem family_append_fieldX_wordOfBytes (hi lo : Byte) :
    family (wordOfBytes hi lo) ++ fieldX (wordOfBytes hi lo) = hi := by
  rw [family_append_fieldX]
  exact BitVec.extractLsb'_append_eq_left

theorem fieldNN_wordOfBytes (hi lo : Byte) : fieldNN (wordOfBytes hi lo) = lo :=
  BitVec.extractLsb'_append_eq_right

/-- Settles O6: the fetched word is `wordOfBytes` of the two bytes at `PC`, whose value and fields are known. -/
theorem fetchIsBigEndian : Obligations.FetchIsBigEndian := fun _ =>
  ⟨wordOfBytes_toNat _ _, family_append_fieldX_wordOfBytes _ _, fieldNN_wordOfBytes _ _⟩

end Sys2Proof
end

section
/-! The conditional skips on an immediate (41_control_flow.md rules R103, R104): the word 3XNN or 4XNN is the encoding of its
instruction, and a skip is one write of `PC`. -/

namespace Sys2Proof

/-- The row that takes an encoded word is the one that decodes it. -/
theorem Laws.EncodeAccepted.Statement.decode_encode {i : Instr} (h : Statement i) (hi : i.wellFormed = true) :
    decode (encode i) = i := by
  obtain ⟨r, hr, hacc, hbuild⟩ := h hi
  exact (decode_of_accepts hr hacc).trans hbuild

namespace Machine

theorem State.onlyChanges_setPc (s : State) (a : Word) : OnlyChanges [.pc] s (s.setPc a) := by
  intro p hp
  cases p with
  | pc => exact absurd (List.mem_singleton_self _) hp
  | v | stack | mem => exact fun _ => rfl
  | disp | shown => exact fun _ _ => rfl
  | i | sp | dt | status | keys | ticksDue | presents | phase | polls | draws => exact rfl

theorem State.skipIf_eq_setPc (s : State) (c : Bool) : s.skipIf c = s.setPc (if c then s.pc + 2 else s.pc) := by
  cases c <;> rfl

theorem State.onlyChanges_skipIf (s : State) (c : Bool) : OnlyChanges [.pc] s (s.skipIf c) := by
  rw [s.skipIf_eq_setPc]
  exact s.onlyChanges_setPc _

/-- A skip taken on equality, as SE takes it. -/
theorem State.skipIf_beq_pc (s : State) (a b : Byte) :
    (s.skipIf (a == b)).pc = if a = b then s.pc + 2 else s.pc := by
  simp only [State.skipIf_pc, beq_iff_eq]

/-- A skip taken on inequality, as SNE takes it. -/
theorem State.skipIf_bne_pc (s : State) (a b : Byte) :
    (s.skipIf (a != b)).pc = if a = b then s.pc else s.pc + 2 := by
  simp only [State.skipIf_pc, bne_iff_ne, ne_eq, ite_not]

end Machine

/-- Settles O37: each form answers `skipIf` of its condition, which writes `PC` and nothing else. -/
theorem skipOnImmediate : Obligations.SkipOnImmediate := fun x nn s =>
  ⟨(Laws.EncodeAccepted.seImm x nn).decode_encode rfl, (Laws.EncodeAccepted.sneImm x nn).decode_encode rfl,
    ⟨_, rfl, s.skipIf_beq_pc _ _, s.onlyChanges_skipIf _⟩, ⟨_, rfl, s.skipIf_bne_pc _ _, s.onlyChanges_skipIf _⟩⟩

end Sys2Proof
end

section
/-! The register load (42_alu.md rule R120): one write of a general register, and what that write leaves unchanged. -/

namespace Sys2Proof

namespace Machine

theorem State.getV_setV_self (s : State) (x : Nibble) (b : Byte) : (s.setV x b).getV x = b :=
  (s.setV_getV x x b).trans (if_pos rfl)

theorem State.onlyV_setV (s : State) (x : Nibble) (b : Byte) : OnlyV x s (s.setV x b) :=
  fun r hr => (s.setV_getV x r b).trans (if_neg hr)

theorem State.onlyChanges_setV (s : State) (x : Nibble) (b : Byte) : OnlyChanges [.v] s (s.setV x b) := by
  intro p hp
  cases p with
  | v => exact absurd (List.mem_singleton_self _) hp
  | stack | mem => exact fun _ => rfl
  | disp | shown => exact fun _ _ => rfl
  | pc | i | sp | dt | status | keys | ticksDue | presents | phase | polls | draws => exact rfl

end Machine

/-- Settles O19: the form answers `setV x nn`, which writes `V[x]` and nothing else. -/
theorem loadImmediateSetsRegister : Obligations.LoadImmediateSetsRegister := fun x nn s =>
  ⟨(Laws.EncodeAccepted.ldImm x nn).decode_encode rfl,
    _, rfl, s.getV_setV_self x nn, s.onlyV_setV x nn, s.onlyChanges_setV x nn⟩

end Sys2Proof
end

section
/-! The index register (43_index_memory.md rules R140 to R142): each form is one write of `I`, and what that write leaves
unchanged. -/

namespace Sys2Proof

namespace Machine

theorem State.onlyChanges_setI (s : State) (w : Word) : OnlyChanges [.i] s (s.setI w) := by
  intro p hp
  cases p with
  | i => exact absurd (List.mem_singleton_self _) hp
  | v | stack | mem => exact fun _ => rfl
  | disp | shown => exact fun _ _ => rfl
  | _ => exact rfl

theorem addrOf_toNat (nnn : Addr12) : (addrOf nnn).toNat = nnn.toNat :=
  BitVec.toNat_setWidth_of_le (by decide)

/-- A zero-extended address has its top four bits clear. -/
theorem addrOf_getLsbD_of_le (nnn : Addr12) {k : Nat} (hk : 12 ≤ k) : (addrOf nnn).getLsbD k = false := by
  rw [addrOf, BitVec.zeroExtend, BitVec.getLsbD_setWidth, BitVec.getLsbD_of_ge nnn k hk, Bool.and_false]

/-- The sum of an index and a byte, modulo 65536. -/
theorem index_add_byte_toNat (i : Word) (b : Byte) :
    (i + b.zeroExtend 16).toNat = (i.toNat + b.toNat) % 65536 := by
  rw [BitVec.toNat_add, BitVec.zeroExtend, BitVec.toNat_setWidth_of_le (by decide)]

theorem glyphAddr_toNat (b : Byte) : (glyphAddr b).toNat = b.toNat % 16 * 5 := by
  rw [glyphAddr, BitVec.toNat_ofNat]
  omega

end Machine

/-- Settles O27: the form answers `setI` of the zero-extended NNN. -/
theorem loadIndexZeroExtends : Obligations.LoadIndexZeroExtends := fun nnn s =>
  ⟨(Laws.EncodeAccepted.ldI nnn).decode_encode rfl,
    _, rfl, Machine.addrOf_toNat nnn, fun _ => Machine.addrOf_getLsbD_of_le nnn, s.onlyChanges_setI _⟩

/-- Settles O28: the form answers `setI` of the 16-bit sum; only a data access reduces it modulo 4096. -/
theorem addIndexWrapsAt16Bits : Obligations.AddIndexWrapsAt16Bits := fun x s =>
  have hsum := Machine.index_add_byte_toNat s.i (s.getV x)
  ⟨(Laws.EncodeAccepted.addI x).decode_encode rfl,
    _, rfl, hsum, rfl, congrArg (fun a => s.mem.read (a % 4096)) hsum, s.onlyChanges_setI _⟩

/-- Settles O29: the form answers `setI` of the glyph address, at most 15 · 5. -/
theorem glyphAddressIsFiveTimesDigit : Obligations.GlyphAddressIsFiveTimesDigit := fun x s =>
  have haddr := Machine.glyphAddr_toNat (s.getV x)
  ⟨(Laws.EncodeAccepted.ldF x).decode_encode rfl,
    _, rfl, haddr, haddr.trans_le (by omega), s.onlyChanges_setI _⟩

end Sys2Proof
end

section
/-! The stores and loads of bytes at `I` (43_index_memory.md rules R143 to R145): what memory and the registers hold after
them, address by address and register by register. -/

namespace Sys2Proof

namespace Machine

theorem State.onlyChanges_withMem (s : State) (m : Memory) : OnlyChanges [.mem] s { s with mem := m } := by
  intro p hp
  cases p with
  | mem => exact absurd (List.mem_singleton_self _) hp
  | v | stack => exact fun _ => rfl
  | disp | shown => exact fun _ _ => rfl
  | _ => exact rfl

theorem State.onlyChanges_withV (s : State) (v : Vector Byte 16) : OnlyChanges [.v] s { s with v := v } := by
  intro p hp
  cases p with
  | v => exact absurd (List.mem_singleton_self _) hp
  | stack | mem => exact fun _ => rfl
  | disp | shown => exact fun _ _ => rfl
  | _ => exact rfl

/-- Bytes of one access lie at different addresses, since fewer than 4096 of them are accessed. -/
theorem State.dataAddr_mod_ne (s : State) {j k : Nat} (hjk : j < k) (hk : k < 4096) :
    s.dataAddr j % 4096 ≠ s.dataAddr k % 4096 := by
  unfold State.dataAddr
  omega

theorem eq_blockReg_iff {n : Nat} (hn : n < 16) (r : Nibble) : r = blockReg n ↔ r.toNat = n := by
  rw [← BitVec.toNat_inj, blockReg, BitVec.toNat_ofNat, Nat.mod_eq_of_lt hn]

/-! ### Decimal digits -/

theorem hundreds_toNat (b : Byte) : (hundreds b).toNat = b.toNat / 100 := by
  rw [hundreds, BitVec.toNat_ofNat]
  omega

theorem tens_toNat (b : Byte) : (tens b).toNat = b.toNat / 10 % 10 := by
  rw [tens, BitVec.toNat_ofNat]
  omega

theorem ones_toNat (b : Byte) : (ones b).toNat = b.toNat % 10 := by
  rw [ones, BitVec.toNat_ofNat]
  omega

/-- What `FX33` does: it writes the three digits to memory, the ones last, and nothing else. -/
theorem execLdB_next (x : Nibble) (s : State) :
    ∃ t, execLdB x s = .next t ∧
      (∀ a, t.mem.read a =
        if a = s.dataAddr 2 % 4096 then ones (s.getV x)
        else if a = s.dataAddr 1 % 4096 then tens (s.getV x)
        else if a = s.dataAddr 0 % 4096 then hundreds (s.getV x)
        else s.mem.read a) ∧
      OnlyChanges [.mem] s t :=
  ⟨_, rfl, fun a => by simp only [State.memWrite_read], s.onlyChanges_withMem _⟩

/-! ### Register blocks -/

theorem State.storeBlock_read_other (s : State) {n a : Nat} (ha : ∀ k < n, a ≠ s.dataAddr k % 4096) :
    (s.storeBlock n).mem.read a = s.mem.read a := by
  induction n with
  | zero => rfl
  | succ n ih =>
    rw [State.storeBlock, State.memWrite_read, if_neg (ha n n.lt_succ_self)]
    exact ih fun k hk => ha k (hk.trans n.lt_succ_self)

theorem State.storeBlock_read_dataAddr (s : State) {n k : Nat} (hn : n ≤ 4096) (hk : k < n) :
    (s.storeBlock n).mem.read (s.dataAddr k % 4096) = s.getV (blockReg k) := by
  induction n with
  | zero => exact absurd hk k.not_lt_zero
  | succ n ih =>
    rw [State.storeBlock, State.memWrite_read]
    rcases Nat.lt_succ_iff_lt_or_eq.mp hk with hlt | rfl
    · rw [if_neg (s.dataAddr_mod_ne hlt hn)]
      exact ih (Nat.le_of_lt hn) hlt
    · exact if_pos rfl

theorem State.loadBlock_getV (s : State) {n : Nat} (hn : n ≤ 16) (r : Nibble) :
    (s.loadBlock n).getV r = if r.toNat < n then s.mem.read (s.dataAddr r.toNat % 4096) else s.getV r := by
  induction n with
  | zero => rfl
  | succ n ih =>
    rw [State.loadBlock, State.setV_getV, ih (Nat.le_of_lt hn)]
    by_cases hr : r.toNat = n
    · rw [if_pos ((eq_blockReg_iff hn r).mpr hr), if_pos (hr ▸ n.lt_succ_self), hr]
      rfl
    · rw [if_neg (mt (eq_blockReg_iff hn r).mp hr)]
      exact if_congr (by omega) rfl rfl

theorem State.onlyChanges_storeBlock (s : State) (n : Nat) : OnlyChanges [.mem] s (s.storeBlock n) := by
  rw [s.storeBlock_frame n]
  exact s.onlyChanges_withMem _

theorem State.onlyChanges_loadBlock (s : State) (n : Nat) : OnlyChanges [.v] s (s.loadBlock n) := by
  rw [s.loadBlock_frame n]
  exact s.onlyChanges_withV _

end Machine

/-- Settles O30: the three addresses are distinct, so each write is what its address reads afterwards. -/
theorem storeDecimalDigits : Obligations.StoreDecimalDigits := by
  intro x s
  obtain ⟨t, hexec, hread, hframe⟩ := Machine.execLdB_next x s
  have h01 := s.dataAddr_mod_ne (j := 0) (k := 1) (by decide) (by decide)
  have h02 := s.dataAddr_mod_ne (j := 0) (k := 2) (by decide) (by decide)
  have h12 := s.dataAddr_mod_ne (j := 1) (k := 2) (by decide) (by decide)
  refine ⟨(Laws.EncodeAccepted.ldB x).decode_encode rfl, t, hexec, ?_, ?_, ?_, ?_, ?_, rfl, hframe⟩
  · rw [hread, if_neg h02, if_neg h01, if_pos rfl, Machine.hundreds_toNat]
  · rw [hread, if_neg h12, if_pos rfl, Machine.tens_toNat]
  · rw [hread, if_pos rfl, Machine.ones_toNat]
  · exact fun j k hjk hk => s.dataAddr_mod_ne hjk (hk.trans (by decide))
  · intro a ha
    rw [hread, if_neg (ha 2 (by decide)), if_neg (ha 1 (by decide)), if_neg (ha 0 (by decide))]

/-- Settles O31: the form answers `storeBlock` of X + 1 registers. -/
theorem storeBlockOfRegisters : Obligations.StoreBlockOfRegisters := fun x s =>
  ⟨(Laws.EncodeAccepted.ldMemVx x).decode_encode rfl, _, rfl,
    fun _ hk => s.storeBlock_read_dataAddr (by omega) (Nat.lt_succ_of_le hk),
    fun _ ha => s.storeBlock_read_other fun k hk => ha k (Nat.le_of_lt_succ hk),
    rfl, s.onlyChanges_storeBlock _⟩

/-- Settles O32: the form answers `loadBlock` of X + 1 registers, of which none is above X. -/
theorem loadBlockOfRegisters : Obligations.LoadBlockOfRegisters := fun x s =>
  have hload := s.loadBlock_getV (n := x.toNat + 1) x.isLt
  ⟨(Laws.EncodeAccepted.ldVxMem x).decode_encode rfl, _, rfl,
    fun r hr => (hload r).trans (if_pos (Nat.lt_succ_of_le hr)),
    fun r hr => (hload r).trans (if_neg (Nat.not_lt.mpr hr)), s.onlyChanges_loadBlock _⟩

end Sys2Proof
end

section
/-! The two placeholders FX0A and FX18 (45_keys_timers.md rules R163, R165): recognised forms whose meaning is the state they
were given. -/

namespace Sys2Proof

namespace Machine

/-- FX0A neither waits nor reads the keys (rule R163). -/
theorem exec_ldVxK (x : Nibble) (s : State) : exec (.ldVxK x) s = .next s := rfl

/-- FX18 arms no timer (rule R165). -/
theorem exec_ldStVx (x : Nibble) (s : State) : exec (.ldStVx x) s = .next s := rfl

end Machine

/-- Settles O49: each word is the encoding of its form, and the form answers the state unchanged. -/
theorem placeholdersDoNothing : Obligations.PlaceholdersDoNothing := fun x s =>
  ⟨(Laws.EncodeAccepted.ldVxK x).decode_encode rfl, (Laws.EncodeAccepted.ldStVx x).decode_encode rfl,
    rfl, rfl, Machine.exec_ldVxK x s, Machine.exec_ldStVx x s⟩

end Sys2Proof
end

section
/-! The unrecognised words (46_unrecognised.md). An instruction that is no recognised form answers the same state. A word decodes
to none unless one of the 34 form rows takes it, which then has the word's family and, in families 8, E and F, its low bits. -/

namespace Sys2Proof

/-! ### Which rows build recognised forms -/

/-- The rows of the 34 forms (30_encoding.md rule R76). -/
def formRows : List Row := formRowsFixed ++ formRowsAlu ++ formRowsHigh

/-- The 69 no-operation rows. -/
def nopRows : List Row :=
  nopRows0 ++ nopRows5 ++ nopRows9 ++ nopRows8 ++ nopRowsE ++ nopRowsFLow ++ nopRowsFHigh

theorem table_eq_formRows_append_nopRows : table = formRows ++ nopRows := rfl

theorem nopRows_build_not_recognised (w : Word) : nopRows.any (fun r => (r.build w).recognised) = false := rfl

/-- A word that no form row takes decodes to no form: some row takes it, and that is then a no-operation row. -/
theorem decode_recognised_eq_false {w : Word} (h : ∀ r ∈ formRows, ¬ r.accepts w = true) :
    (decode w).recognised = false := by
  obtain ⟨r, hr, hacc⟩ := table_covers w
  rw [decode_of_accepts hr hacc]
  rw [table_eq_formRows_append_nopRows, List.mem_append] at hr
  rcases hr with hform | hnop
  · exact absurd hacc (h r hform)
  · exact Bool.eq_false_of_not_eq_true (List.any_eq_false.mp (nopRows_build_not_recognised w) r hnop)

/-! ### The bits a row fixes -/

/-- A word agrees with the row that takes it on every field the row's mask holds whole. -/
theorem Row.extractLsb'_eq_of_accepts {r : Row} {w : Word} (h : r.accepts w = true) {start len : Nat}
    (hmask : r.mask.extractLsb' start len = BitVec.allOnes len) :
    w.extractLsb' start len = r.value.extractLsb' start len := by
  rw [Row.accepts, inCube, beq_iff_eq] at h
  rw [← h, BitVec.extractLsb'_and, hmask, BitVec.and_allOnes]

theorem formRows_mask_family : ∀ r ∈ formRows, r.mask.extractLsb' 12 4 = BitVec.allOnes 4 := by decide

theorem toNat_extractLsb'_family (w : Word) : (w.extractLsb' 12 4).toNat = w.toNat / 4096 := by
  rw [BitVec.extractLsb'_toNat, Nat.shiftRight_eq_div_pow]
  omega

theorem toNat_extractLsb'_low (w : Word) (k : Nat) : (w.extractLsb' 0 k).toNat = w.toNat % 2 ^ k := by
  rw [BitVec.extractLsb'_toNat, Nat.shiftRight_zero]

/-- The forms of family `f` fix the low `k` bits of their words, to the values of `l`. -/
abbrev FormsFixLow (f k : Nat) (l : List Nat) : Prop :=
  ∀ r ∈ formRows, r.value.toNat / 4096 = f →
    r.mask.extractLsb' 0 k = BitVec.allOnes k ∧ r.value.toNat % 2 ^ k ∈ l

theorem formsFixLow_eight : FormsFixLow 8 4 [0x0, 0x1, 0x2, 0x3, 0x4, 0x5, 0x6, 0x7, 0xE] := by decide

theorem formsFixLow_E : FormsFixLow 0xE 8 [0x9E, 0xA1] := by decide

theorem formsFixLow_F : FormsFixLow 0xF 8 [0x07, 0x0A, 0x15, 0x18, 0x1E, 0x29, 0x33, 0x55, 0x65] := by decide

theorem low_nibbles_eight_disjoint : ∀ n ∈ [0x8, 0x9, 0xA, 0xB, 0xC, 0xD, 0xF],
    n ∉ [0x0, 0x1, 0x2, 0x3, 0x4, 0x5, 0x6, 0x7, 0xE] := by decide

/-- No form takes a word of the family with other low bits. -/
theorem FormsFixLow.not_accepts {f k : Nat} {l : List Nat} (hforms : FormsFixLow f k l) {w : Word}
    (hf : w.toNat / 4096 = f) (hlow : w.toNat % 2 ^ k ∉ l) : ∀ r ∈ formRows, ¬ r.accepts w = true := by
  intro r hr hacc
  have hfamily := Row.extractLsb'_eq_of_accepts hacc (formRows_mask_family r hr)
  rw [← BitVec.toNat_inj, toNat_extractLsb'_family, toNat_extractLsb'_family, hf] at hfamily
  obtain ⟨hmask, hvalue⟩ := hforms r hr hfamily.symm
  have hbits := Row.extractLsb'_eq_of_accepts hacc hmask
  rw [← BitVec.toNat_inj, toNat_extractLsb'_low, toNat_extractLsb'_low] at hbits
  exact hlow (hbits ▸ hvalue)

/-! ### Words and instructions that do nothing -/

namespace Machine

theorem recovered_eq_next (s : State) : recovered s = .next s :=
  congrArg Host.Outcome.next s.raise_unrecognizedSubopcode

/-- Every instruction outside the 34 forms is raised and recovered (46_unrecognised.md rule R176). In the cases of the 34
forms the hypothesis is absurd. -/
theorem exec_of_not_recognised {i : Instr} (h : i.recognised = false) (s : State) : exec i s = .next s := by
  rw [← recovered_eq_next]
  cases i <;> cases h <;> rfl

theorem exec_of_mem_not_recognised {l : List Instr} (hl : l.any Instr.recognised = false) (s : State) :
    ∀ i ∈ l, exec i s = .next s := fun i hi =>
  exec_of_not_recognised (Bool.eq_false_of_not_eq_true (List.any_eq_false.mp hl i hi)) s

/-- Where the forms of a family fix the low bits, every other word of the family does nothing. -/
theorem noOperation_of_formsFixLow {f k : Nat} {l : List Nat} (hforms : FormsFixLow f k l) {w : Word}
    (hf : w.toNat / 4096 = f) (hlow : w.toNat % 2 ^ k ∉ l) : NoOperation w :=
  have hdecode := decode_recognised_eq_false (hforms.not_accepts hf hlow)
  ⟨hdecode, exec_of_not_recognised hdecode⟩

end Machine

/-- Settles O51: the forms of family 8 fix a low nibble 0 to 7 or E, none of the seven. -/
theorem unrecognisedEightDoesNothing : Obligations.UnrecognisedEightDoesNothing :=
  ⟨fun _ hf hlow => Machine.noOperation_of_formsFixLow formsFixLow_eight hf (low_nibbles_eight_disjoint _ hlow),
    fun _ => Machine.exec_of_mem_not_recognised rfl⟩

/-- Settles O52: the forms of family E fix the low byte 9E or A1. -/
theorem unrecognisedEDoesNothing : Obligations.UnrecognisedEDoesNothing :=
  ⟨fun _ hf hlow => Machine.noOperation_of_formsFixLow formsFixLow_E hf hlow,
    fun _ => Machine.exec_of_mem_not_recognised rfl⟩

/-- Settles O53: the forms of family F fix one of nine low bytes. -/
theorem unrecognisedFDoesNothing : Obligations.UnrecognisedFDoesNothing :=
  ⟨fun _ hf hlow => Machine.noOperation_of_formsFixLow formsFixLow_F hf hlow,
    fun _ => Machine.exec_of_mem_not_recognised rfl⟩

end Sys2Proof
end

section
/-! The opcode table read both ways (30_encoding.md): the word of an instruction is taken by the row that builds it back, and
the instruction a row builds from a word it takes encodes to that word. -/

namespace Sys2Proof

/-! ### Exactly one row -/

/-- A list of pairwise exclusive rows takes a word at most once. -/
theorem length_filter_accepts_le_one {l : List Row}
    (hl : l.Pairwise fun r q => r.value &&& q.mask ≠ q.value &&& r.mask) (w : Word) :
    (l.filter fun r => r.accepts w).length ≤ 1 := by
  have hd := hl.filter fun r => r.accepts w
  have hacc : ∀ r ∈ l.filter (fun r => r.accepts w), r.accepts w = true := fun r hr => (List.mem_filter.mp hr).2
  generalize l.filter (fun r => r.accepts w) = taken at hd hacc ⊢
  match taken with
  | [] => exact Nat.zero_le 1
  | [_] => exact Nat.le_refl 1
  | r :: q :: _ =>
    have hne := (List.pairwise_cons.mp hd).1 q (by simp)
    have hq : q.accepts w = false := inCube_disjoint hne w (hacc r (by simp))
    exact absurd (hacc q (by simp)) (by simp [hq])

/-- Settles O4: some row takes the word (`table_covers`), and exclusive rows take it at most once. -/
theorem oneRowPerWord : Obligations.OneRowPerWord := fun w => by
  obtain ⟨r, hr, hacc⟩ := table_covers w
  exact Nat.le_antisymm (length_filter_accepts_le_one table_disjoint w)
    (List.length_pos_of_mem (List.mem_filter.mpr ⟨hr, hacc⟩))

/-! ### From a word to its instruction and back -/

/-- Every word is its family and NNN. -/
theorem family_append_fieldNNN (w : Word) : family w ++ fieldNNN w = w :=
  (BitVec.extractLsb'_append_extractLsb'_eq_extractLsb' rfl).trans BitVec.extractLsb'_eq_self

/-- Every word is its family, X and NN. -/
theorem family_append_fieldX_append_fieldNN (w : Word) : (family w ++ fieldX w ++ fieldNN w : Word) = w := by
  rw [family_append_fieldX]
  exact (BitVec.extractLsb'_append_extractLsb'_eq_extractLsb' rfl).trans BitVec.extractLsb'_eq_self

/-- Every word is its family, X, Y and N. -/
theorem four_fields_append (w : Word) : (family w ++ fieldX w ++ fieldY w ++ fieldN w : Word) = w := by
  rw [family_append_fieldX]
  have : w.extractLsb' 8 8 ++ fieldY w = w.extractLsb' 4 12 := BitVec.extractLsb'_append_extractLsb'_eq_extractLsb' rfl
  rw [this]
  exact (BitVec.extractLsb'_append_extractLsb'_eq_extractLsb' rfl).trans BitVec.extractLsb'_eq_self

/-- The row fixes the bits of its words from `start` to the value `v`. -/
def Row.Fixes (r : Row) (start : Nat) {len : Nat} (v : BitVec len) : Prop :=
  r.mask.extractLsb' start len = BitVec.allOnes len ∧ r.value.extractLsb' start len = v

theorem Row.Fixes.extractLsb'_eq {r : Row} {w : Word} {start len : Nat} {v : BitVec len} (h : r.Fixes start v)
    (hacc : r.accepts w = true) : w.extractLsb' start len = v :=
  (Row.extractLsb'_eq_of_accepts hacc h.1).trans h.2

section
variable {r : Row} {f y n : Nibble} {w : Word} (hf : r.Fixes 12 f)
include hf

/-- The format FNNN: the fixed family before the field. -/
theorem Row.Fixes.append_nnn (hacc : r.accepts w = true) : f ++ fieldNNN w = w := by
  rw [← hf.extractLsb'_eq hacc]
  exact family_append_fieldNNN w

theorem Row.Fixes.append_xnn (hacc : r.accepts w = true) : f ++ fieldX w ++ fieldNN w = w := by
  rw [← hf.extractLsb'_eq hacc]
  exact family_append_fieldX_append_fieldNN w

theorem Row.Fixes.append_xyn (hacc : r.accepts w = true) : f ++ fieldX w ++ fieldY w ++ fieldN w = w := by
  rw [← hf.extractLsb'_eq hacc]
  exact four_fields_append w

theorem Row.Fixes.append_xy (hn : r.Fixes 0 n) (hacc : r.accepts w = true) :
    f ++ fieldX w ++ fieldY w ++ n = w := by
  rw [← hn.extractLsb'_eq hacc]
  exact hf.append_xyn hacc

theorem Row.Fixes.append_x (hy : r.Fixes 4 y) (hn : r.Fixes 0 n) (hacc : r.accepts w = true) :
    f ++ fieldX w ++ y ++ n = w := by
  rw [← hy.extractLsb'_eq hacc]
  exact hf.append_xy hn hacc

end

/-- A row that fixes all 16 bits takes one word. -/
theorem Row.Fixes.eq_of_accepts {r : Row} {v w : Word} (h : r.Fixes 0 v) (hacc : r.accepts w = true) : v = w := by
  rw [← h.extractLsb'_eq hacc]
  exact BitVec.extractLsb'_eq_self

/-- The row's instruction encodes to the word it is built from. -/
def Row.Encodes (r : Row) : Prop := ∀ w : Word, r.accepts w = true → encode (r.build w) = w

theorem formRowsFixed_encodes : ∀ r ∈ formRowsFixed, r.Encodes := by
  simp only [formRowsFixed, List.forall_mem_cons, List.not_mem_nil, false_imp_iff, implies_true, and_true]
  exact ⟨
    fun w => Row.Fixes.eq_of_accepts ⟨rfl, rfl⟩,
    fun w => Row.Fixes.eq_of_accepts ⟨rfl, rfl⟩,
    fun w => Row.Fixes.append_nnn ⟨rfl, rfl⟩,
    fun w => Row.Fixes.append_nnn ⟨rfl, rfl⟩,
    fun w => Row.Fixes.append_xnn ⟨rfl, rfl⟩,
    fun w => Row.Fixes.append_xnn ⟨rfl, rfl⟩,
    fun w => Row.Fixes.append_xy ⟨rfl, rfl⟩ ⟨rfl, rfl⟩,
    fun w => Row.Fixes.append_xy ⟨rfl, rfl⟩ ⟨rfl, rfl⟩,
    fun w => Row.Fixes.append_xnn ⟨rfl, rfl⟩,
    fun w => Row.Fixes.append_xnn ⟨rfl, rfl⟩⟩

theorem formRowsAlu_encodes : ∀ r ∈ formRowsAlu, r.Encodes := by
  simp only [formRowsAlu, List.forall_mem_cons, List.not_mem_nil, false_imp_iff, implies_true, and_true]
  and_intros
  all_goals exact fun w => Row.Fixes.append_xy ⟨rfl, rfl⟩ ⟨rfl, rfl⟩

theorem formRowsHigh_encodes : ∀ r ∈ formRowsHigh, r.Encodes := by
  simp only [formRowsHigh, List.forall_mem_cons, List.not_mem_nil, false_imp_iff, implies_true, and_true]
  refine ⟨
    fun w => Row.Fixes.append_nnn ⟨rfl, rfl⟩,
    fun w => Row.Fixes.append_nnn ⟨rfl, rfl⟩,
    fun w => Row.Fixes.append_xnn ⟨rfl, rfl⟩,
    fun w => Row.Fixes.append_xyn ⟨rfl, rfl⟩, ?_⟩
  and_intros
  all_goals exact fun w => Row.Fixes.append_x ⟨rfl, rfl⟩ ⟨rfl, rfl⟩ ⟨rfl, rfl⟩

theorem formRows_encodes : ∀ r ∈ formRows, r.Encodes := by
  simp only [formRows, List.forall_mem_append]
  exact ⟨⟨formRowsFixed_encodes, formRowsAlu_encodes⟩, formRowsHigh_encodes⟩

theorem formRows_build_recognised (w : Word) : formRows.all (fun r => (r.build w).recognised) = true := rfl

theorem formRows_build_wellFormed (w : Word) : formRows.all (fun r => (r.build w).wellFormed) = true := rfl

/-- A no-operation row builds an instruction that carries the word, and whose check is that the row takes it. -/
theorem nopRows_build (w : Word) :
    nopRows.map (fun r => ((r.build w).wellFormed, encode (r.build w))) = nopRows.map (fun r => (r.accepts w, w)) := rfl

/-- What the row that takes a word builds is well formed and encodes to the word. -/
theorem table_build_wellFormed_and_encodes {r : Row} (hr : r ∈ table) {w : Word} (hacc : r.accepts w = true) :
    (r.build w).wellFormed = true ∧ encode (r.build w) = w := by
  rw [table_eq_formRows_append_nopRows, List.mem_append] at hr
  rcases hr with hform | hnop
  · exact ⟨List.all_eq_true.mp (formRows_build_wellFormed w) r hform, formRows_encodes r hform w hacc⟩
  · have h := List.map_inj_left.mp (nopRows_build w) r hnop
    rw [hacc] at h
    exact Prod.mk.inj h

/-- Settles O3: a row takes the word, and what that row builds is well formed and encodes to it. -/
theorem encodeOfDecode : Obligations.EncodeOfDecode := fun w => by
  obtain ⟨r, hr, hacc⟩ := table_covers w
  rw [decode_of_accepts hr hacc]
  exact table_build_wellFormed_and_encodes hr hacc

/-! ### From an instruction to its word and back -/

/-- Each of the 103 constructors has its row (Laws/PerInstr.lean). -/
theorem Laws.EncodeAccepted.statement : ∀ i : Instr, Laws.EncodeAccepted.Statement i
  | .cls => Laws.EncodeAccepted.cls
  | .ret => Laws.EncodeAccepted.ret
  | .jp nnn => Laws.EncodeAccepted.jp nnn
  | .call nnn => Laws.EncodeAccepted.call nnn
  | .seImm x nn => Laws.EncodeAccepted.seImm x nn
  | .sneImm x nn => Laws.EncodeAccepted.sneImm x nn
  | .seReg x y => Laws.EncodeAccepted.seReg x y
  | .sneReg x y => Laws.EncodeAccepted.sneReg x y
  | .ldImm x nn => Laws.EncodeAccepted.ldImm x nn
  | .addImm x nn => Laws.EncodeAccepted.addImm x nn
  | .ldReg x y => Laws.EncodeAccepted.ldReg x y
  | .orReg x y => Laws.EncodeAccepted.orReg x y
  | .andReg x y => Laws.EncodeAccepted.andReg x y
  | .xorReg x y => Laws.EncodeAccepted.xorReg x y
  | .addReg x y => Laws.EncodeAccepted.addReg x y
  | .sub x y => Laws.EncodeAccepted.sub x y
  | .shr x y => Laws.EncodeAccepted.shr x y
  | .subn x y => Laws.EncodeAccepted.subn x y
  | .shl x y => Laws.EncodeAccepted.shl x y
  | .ldI nnn => Laws.EncodeAccepted.ldI nnn
  | .jpV0 nnn => Laws.EncodeAccepted.jpV0 nnn
  | .rnd x nn => Laws.EncodeAccepted.rnd x nn
  | .drw x y n => Laws.EncodeAccepted.drw x y n
  | .skp x => Laws.EncodeAccepted.skp x
  | .sknp x => Laws.EncodeAccepted.sknp x
  | .ldVxDt x => Laws.EncodeAccepted.ldVxDt x
  | .ldDtVx x => Laws.EncodeAccepted.ldDtVx x
  | .ldVxK x => Laws.EncodeAccepted.ldVxK x
  | .ldStVx x => Laws.EncodeAccepted.ldStVx x
  | .addI x => Laws.EncodeAccepted.addI x
  | .ldF x => Laws.EncodeAccepted.ldF x
  | .ldB x => Laws.EncodeAccepted.ldB x
  | .ldMemVx x => Laws.EncodeAccepted.ldMemVx x
  | .ldVxMem x => Laws.EncodeAccepted.ldVxMem x
  | .nop001 w => Laws.EncodeAccepted.nop001 w
  | .nop002 w => Laws.EncodeAccepted.nop002 w
  | .nop003 w => Laws.EncodeAccepted.nop003 w
  | .nop004 w => Laws.EncodeAccepted.nop004 w
  | .nop005 w => Laws.EncodeAccepted.nop005 w
  | .nop006 w => Laws.EncodeAccepted.nop006 w
  | .nop007 w => Laws.EncodeAccepted.nop007 w
  | .nop008 w => Laws.EncodeAccepted.nop008 w
  | .nop009 w => Laws.EncodeAccepted.nop009 w
  | .nop010 w => Laws.EncodeAccepted.nop010 w
  | .nop011 w => Laws.EncodeAccepted.nop011 w
  | .nop012 w => Laws.EncodeAccepted.nop012 w
  | .nop013 w => Laws.EncodeAccepted.nop013 w
  | .nop014 w => Laws.EncodeAccepted.nop014 w
  | .nop501 w => Laws.EncodeAccepted.nop501 w
  | .nop502 w => Laws.EncodeAccepted.nop502 w
  | .nop503 w => Laws.EncodeAccepted.nop503 w
  | .nop504 w => Laws.EncodeAccepted.nop504 w
  | .nop901 w => Laws.EncodeAccepted.nop901 w
  | .nop902 w => Laws.EncodeAccepted.nop902 w
  | .nop903 w => Laws.EncodeAccepted.nop903 w
  | .nop904 w => Laws.EncodeAccepted.nop904 w
  | .nop801 w => Laws.EncodeAccepted.nop801 w
  | .nop802 w => Laws.EncodeAccepted.nop802 w
  | .nop803 w => Laws.EncodeAccepted.nop803 w
  | .nopE01 w => Laws.EncodeAccepted.nopE01 w
  | .nopE02 w => Laws.EncodeAccepted.nopE02 w
  | .nopE03 w => Laws.EncodeAccepted.nopE03 w
  | .nopE04 w => Laws.EncodeAccepted.nopE04 w
  | .nopE05 w => Laws.EncodeAccepted.nopE05 w
  | .nopE06 w => Laws.EncodeAccepted.nopE06 w
  | .nopE07 w => Laws.EncodeAccepted.nopE07 w
  | .nopE08 w => Laws.EncodeAccepted.nopE08 w
  | .nopE09 w => Laws.EncodeAccepted.nopE09 w
  | .nopE10 w => Laws.EncodeAccepted.nopE10 w
  | .nopE11 w => Laws.EncodeAccepted.nopE11 w
  | .nopE12 w => Laws.EncodeAccepted.nopE12 w
  | .nopF01 w => Laws.EncodeAccepted.nopF01 w
  | .nopF02 w => Laws.EncodeAccepted.nopF02 w
  | .nopF03 w => Laws.EncodeAccepted.nopF03 w
  | .nopF04 w => Laws.EncodeAccepted.nopF04 w
  | .nopF05 w => Laws.EncodeAccepted.nopF05 w
  | .nopF06 w => Laws.EncodeAccepted.nopF06 w
  | .nopF07 w => Laws.EncodeAccepted.nopF07 w
  | .nopF08 w => Laws.EncodeAccepted.nopF08 w
  | .nopF09 w => Laws.EncodeAccepted.nopF09 w
  | .nopF10 w => Laws.EncodeAccepted.nopF10 w
  | .nopF11 w => Laws.EncodeAccepted.nopF11 w
  | .nopF12 w => Laws.EncodeAccepted.nopF12 w
  | .nopF13 w => Laws.EncodeAccepted.nopF13 w
  | .nopF14 w => Laws.EncodeAccepted.nopF14 w
  | .nopF15 w => Laws.EncodeAccepted.nopF15 w
  | .nopF16 w => Laws.EncodeAccepted.nopF16 w
  | .nopF17 w => Laws.EncodeAccepted.nopF17 w
  | .nopF18 w => Laws.EncodeAccepted.nopF18 w
  | .nopF19 w => Laws.EncodeAccepted.nopF19 w
  | .nopF20 w => Laws.EncodeAccepted.nopF20 w
  | .nopF21 w => Laws.EncodeAccepted.nopF21 w
  | .nopF22 w => Laws.EncodeAccepted.nopF22 w
  | .nopF23 w => Laws.EncodeAccepted.nopF23 w
  | .nopF24 w => Laws.EncodeAccepted.nopF24 w
  | .nopF25 w => Laws.EncodeAccepted.nopF25 w
  | .nopF26 w => Laws.EncodeAccepted.nopF26 w
  | .nopF27 w => Laws.EncodeAccepted.nopF27 w
  | .nopF28 w => Laws.EncodeAccepted.nopF28 w
  | .nopF29 w => Laws.EncodeAccepted.nopF29 w
  | .nopF30 w => Laws.EncodeAccepted.nopF30 w
  | .nopF31 w => Laws.EncodeAccepted.nopF31 w
  | .nopF32 w => Laws.EncodeAccepted.nopF32 w

/-- Settles O2: the row that takes the encoded word builds the instruction back, and no other row takes the word. -/
theorem decodeOfEncode : Obligations.DecodeOfEncode := fun i hi =>
  (Laws.EncodeAccepted.statement i).decode_encode hi

end Sys2Proof
end

section
/-! Which words decode to one of the 34 forms (30_encoding.md rules R74, R75): those with the family and the low bits of a form
row, which the family map lists. -/

namespace Sys2Proof

theorem decode_recognised_of_formRow {r : Row} (hr : r ∈ formRows) {w : Word} (hacc : r.accepts w = true) :
    (decode w).recognised = true := by
  have htable : r ∈ table := table_eq_formRows_append_nopRows ▸ List.mem_append_left nopRows hr
  rw [decode_of_accepts htable hacc]
  exact List.all_eq_true.mp (formRows_build_recognised w) r hr

/-- A word decodes to a form iff a form row takes it. -/
theorem decode_recognised_eq_any (w : Word) : (decode w).recognised = formRows.any fun r => r.accepts w := by
  cases hany : formRows.any fun r => r.accepts w
  · exact decode_recognised_eq_false (List.any_eq_false.mp hany)
  · obtain ⟨r, hr, hacc⟩ := List.any_eq_true.mp hany
    exact decode_recognised_of_formRow hr hacc

/-- The row fixes the family and the low `k` bits, and has no value bit outside them. -/
def Row.FixesFamilyAndLow (r : Row) (k : Nat) : Prop :=
  (∀ i < 16, r.mask.getLsbD i = decide (i < k ∨ 12 ≤ i)) ∧ r.value &&& r.mask = r.value

theorem Row.FixesFamilyAndLow.accepts_iff_bits {r : Row} {k : Nat} (h : r.FixesFamilyAndLow k) (w : Word) :
    r.accepts w = true ↔ ∀ i < 16, i < k ∨ 12 ≤ i → w.getLsbD i = r.value.getLsbD i := by
  obtain ⟨hmask, hvalue⟩ := h
  have hbits : r.accepts w = true ↔ ∀ i < 16, (w &&& r.mask).getLsbD i = (r.value &&& r.mask).getLsbD i := by
    rw [hvalue, Row.accepts, inCube, beq_iff_eq]
    exact ⟨fun h _ _ => h ▸ rfl, BitVec.eq_of_getLsbD_eq⟩
  rw [hbits]
  refine forall₂_congr fun i hi => ?_
  rw [BitVec.getLsbD_and, BitVec.getLsbD_and, hmask i hi]
  by_cases hfix : i < k ∨ 12 ≤ i
  · simp only [hfix, decide_true, Bool.and_true, true_imp_iff]
  · simp only [hfix, decide_false, Bool.and_false, false_imp_iff]

theorem extractLsb'_eq_iff_bits {w v : Word} {start len : Nat} :
    w.extractLsb' start len = v.extractLsb' start len ↔
      ∀ i < len, w.getLsbD (start + i) = v.getLsbD (start + i) := by
  constructor
  · intro h i hi
    simpa only [BitVec.getLsbD_extractLsb', hi, decide_true, Bool.true_and] using congrArg (·.getLsbD i) h
  · intro h
    apply BitVec.eq_of_getLsbD_eq
    intro i hi
    simp only [BitVec.getLsbD_extractLsb', hi, h i hi]

/-- A row that fixes the family and `k` low bits takes the words with that family and those bits. -/
theorem Row.FixesFamilyAndLow.accepts_iff {r : Row} {k : Nat} (h : r.FixesFamilyAndLow k) (hk : k ≤ 12) (w : Word) :
    r.accepts w = true ↔
      w.toNat / 4096 = r.value.toNat / 4096 ∧ w.toNat % 2 ^ k = r.value.toNat % 2 ^ k := by
  simp only [← toNat_extractLsb'_family, ← toNat_extractLsb'_low, BitVec.toNat_inj]
  rw [h.accepts_iff_bits, extractLsb'_eq_iff_bits, extractLsb'_eq_iff_bits]
  constructor
  · intro hbits
    exact ⟨fun i hi => hbits _ (by omega) (.inr (by omega)), fun i hi => hbits _ (by omega) (.inl (by omega))⟩
  · rintro ⟨hfamily, hlow⟩ i hi (hlt | hge)
    · simpa only [Nat.zero_add] using hlow i hlt
    · simpa only [Nat.add_sub_cancel' hge] using hfamily (i - 12) (by omega)

/-- The number of low bits a form row fixes: none, a nibble, a byte, or NNN whole. -/
def Row.lowBits (r : Row) : Nat := (r.mask.toNat % 4096).size

theorem formRows_fix : ∀ r ∈ formRows, r.FixesFamilyAndLow r.lowBits ∧ r.lowBits ≤ 12 := by
  unfold Row.FixesFamilyAndLow
  decide

/-- The low bits that the form rows of family `f` fix: how many, and their value. -/
def formLows (f : Nat) : List (Nat × Nat) :=
  (formRows.filter fun r => r.value.toNat / 4096 == f).map fun r => (r.lowBits, r.value.toNat % 2 ^ r.lowBits)

/-- A word decodes to a form iff it has the low bits of a form of its family. -/
theorem decode_recognised_eq_true_iff (w : Word) :
    (decode w).recognised = true ↔ ∃ p ∈ formLows (w.toNat / 4096), w.toNat % 2 ^ p.1 = p.2 := by
  rw [decode_recognised_eq_any, List.any_eq_true]
  simp only [formLows, List.mem_map, List.mem_filter, beq_iff_eq]
  constructor
  · rintro ⟨r, hr, hacc⟩
    obtain ⟨hfix, hle⟩ := formRows_fix r hr
    obtain ⟨hfamily, hlow⟩ := (hfix.accepts_iff hle w).mp hacc
    exact ⟨_, ⟨r, ⟨hr, hfamily.symm⟩, rfl⟩, hlow⟩
  · rintro ⟨_, ⟨r, ⟨hr, hfamily⟩, rfl⟩, hlow⟩
    obtain ⟨hfix, hle⟩ := formRows_fix r hr
    exact ⟨r, hr, (hfix.accepts_iff hle w).mpr ⟨hfamily.symm, hlow⟩⟩

theorem formLows_whole_family : ∀ f ∈ [1, 2, 3, 4, 6, 7, 0xA, 0xB, 0xC, 0xD], formLows f = [0].map (0, ·) := by decide

theorem formLows_zero : formLows 0 = [0x0E0, 0x0EE].map (12, ·) := by decide

theorem formLows_register_skips : ∀ f ∈ [5, 9], formLows f = [0].map (4, ·) := by decide

theorem formLows_eight : formLows 8 = [0, 1, 2, 3, 4, 5, 6, 7, 0xE].map (4, ·) := by decide

theorem formLows_E : formLows 0xE = [0x9E, 0xA1].map (8, ·) := by decide

theorem formLows_F :
    formLows 0xF = [0x07, 0x15, 0x0A, 0x18, 0x1E, 0x29, 0x33, 0x55, 0x65].map (8, ·) := by decide

theorem exists_mem_map_low (k n : Nat) (l : List Nat) :
    (∃ p ∈ l.map (k, ·), n % 2 ^ p.1 = p.2) ↔ n % 2 ^ k ∈ l := by
  simp only [List.mem_map, exists_exists_and_eq_and, exists_eq_right']

/-- Settles O5: family by family, the low bits of the form rows are those of the map. -/
theorem decodeFollowsFamilyMap : Obligations.DecodeFollowsFamilyMap := fun w => by
  rw [Bool.eq_iff_iff, decode_recognised_eq_true_iff]
  have hfamily : w.toNat / 4096 < 16 := by omega
  unfold Machine.familyMap
  generalize hf : w.toNat / 4096 = f at hfamily
  match f, hf, hfamily with
  | 0, hf, _ =>
    rw [formLows_zero, exists_mem_map_low]
    simp only [List.mem_cons, List.not_mem_nil, or_false, Bool.or_eq_true, beq_iff_eq, ← BitVec.toNat_inj,
      BitVec.ofNat_eq_ofNat, BitVec.toNat_ofNat]
    omega
  | 5, _, _ | 9, _, _ =>
    rw [formLows_register_skips _ (by decide), exists_mem_map_low]
    simp
  | 8, _, _ =>
    rw [formLows_eight, exists_mem_map_low]
    simp only [List.mem_cons, List.not_mem_nil, or_false, Bool.or_eq_true, decide_eq_true_eq, beq_iff_eq]
    omega
  | 0xE, _, _ =>
    rw [formLows_E, exists_mem_map_low]
    simp
  | 0xF, _, _ =>
    rw [formLows_F, exists_mem_map_low]
    simp only [List.contains_eq_mem, List.mem_cons, List.not_mem_nil, or_false, decide_eq_true_eq]
    omega
  | 1, _, _ | 2, _, _ | 3, _, _ | 4, _, _ | 6, _, _ | 7, _, _ | 0xA, _, _ | 0xB, _, _ | 0xC, _, _ | 0xD, _, _ =>
    rw [formLows_whole_family _ (by decide), exists_mem_map_low]
    simp [Nat.mod_one]
  | f + 16, _, hfamily => exact absurd hfamily (by omega)

namespace Machine

/-- A word outside the family map does nothing. -/
theorem noOperation_of_familyMap_eq_false {w : Word} (h : familyMap w = false) : NoOperation w :=
  have hdecode := (decodeFollowsFamilyMap w).trans h
  ⟨hdecode, exec_of_not_recognised hdecode⟩

end Machine

/-- Settles O50: the family map holds of two words of family 0 only, and in families 5 and 9 of the words with low nibble 0. -/
theorem unrecognisedZeroFiveNineDoNothing : Obligations.UnrecognisedZeroFiveNineDoNothing := by
  refine ⟨fun w hf hcls hret => ?_, fun w hf hlow => ?_, fun w hf hlow => ?_, fun w => Machine.exec_of_mem_not_recognised rfl⟩
  all_goals apply Machine.noOperation_of_familyMap_eq_false
  · simpa [Machine.familyMap, hf] using ⟨hcls, hret⟩
  · simp [Machine.familyMap, hf, hlow]
  · simp [Machine.familyMap, hf, hlow]

/-- Settles O1, by evaluating the decoder on each word. -/
theorem decodeSampleWords : Obligations.DecodeSampleWords := by
  unfold Obligations.DecodeSampleWords
  decide

end Sys2Proof
end

section
/-! What every instruction leaves unchanged (40_fetch_decode_execute.md rule R93): one frame for each state operation, and from
them one frame for each instruction. Later proofs about parts, registers, `PC` and steps start from `exec_onlyChanges`. -/

namespace Sys2Proof

namespace Machine

/-! ### Frames of the state operations -/

theorem OnlyChanges.refl (ps : List Part) (s : State) : OnlyChanges ps s s := by
  intro p _
  cases p with
  | v | stack | mem => exact fun _ => rfl
  | disp | shown => exact fun _ _ => rfl
  | _ => exact rfl

theorem Part.same.trans {s t u : State} {p : Part} (hst : p.same s t) (htu : p.same t u) : p.same s u := by
  cases p with
  | v | stack | mem => exact fun k => (htu k).trans (hst k)
  | disp | shown => exact fun x y => (htu x y).trans (hst x y)
  | _ => exact Eq.trans htu hst

theorem OnlyChanges.trans {ps : List Part} {s t u : State} (hst : OnlyChanges ps s t) (htu : OnlyChanges ps t u) :
    OnlyChanges ps s u :=
  fun p hp => (hst p hp).trans (htu p hp)

theorem OnlyChanges.mono {ps qs : List Part} {s t : State} (h : OnlyChanges ps s t) (hsub : ps ⊆ qs) :
    OnlyChanges qs s t :=
  fun p hp => h p fun hmem => hp (hsub hmem)

theorem State.onlyChanges_setResultFlag (s : State) (x : Nibble) (b : Byte) (f : Bool) :
    OnlyChanges [.v] s (s.setResultFlag x b f) :=
  (s.onlyChanges_setV x b).trans ((s.setV x b).onlyChanges_setV vf (flagByte f))

theorem State.onlyChanges_drawByte (s : State) : OnlyChanges [.draws] s s.drawByte.2 := by
  intro p hp
  cases p with
  | draws => exact absurd (List.mem_singleton_self _) hp
  | v | stack | mem => exact fun _ => rfl
  | disp | shown => exact fun _ _ => rfl
  | _ => exact rfl

theorem State.onlyChanges_setDt (s : State) (b : Byte) : OnlyChanges [.dt] s (s.setDt b) := by
  intro p hp
  cases p with
  | dt => exact absurd (List.mem_singleton_self _) hp
  | v | stack | mem => exact fun _ => rfl
  | disp | shown => exact fun _ _ => rfl
  | _ => exact rfl

/-- A raised condition is recorded in `STATUS`, and nothing else changes (60_exceptions.md rule R184). -/
theorem State.onlyChanges_raise (s : State) (c : Condition) : OnlyChanges [.status] s (s.raise c) := by
  intro p hp
  cases c <;> cases p with
  | status => exact absurd (List.mem_singleton_self _) hp
  | v | stack | mem => exact fun _ => rfl
  | disp | shown => exact fun _ _ => rfl
  | _ => exact rfl

theorem State.onlyChanges_pop (s : State) : OnlyChanges [.sp] s s.pop := by
  intro p hp
  cases p with
  | sp => exact absurd (List.mem_singleton_self _) hp
  | v | stack | mem => exact fun _ => rfl
  | disp | shown => exact fun _ _ => rfl
  | _ => exact rfl

theorem State.onlyChanges_push (s : State) (w : Word) : OnlyChanges [.sp, .stack] s (s.push w) := by
  intro p hp
  cases p with
  | sp | stack => exact absurd (by simp) hp
  | v | mem => exact fun _ => rfl
  | disp | shown => exact fun _ _ => rfl
  | _ => exact rfl

/-- A new display, presented. -/
theorem State.onlyChanges_present (s : State) (d : Display) :
    OnlyChanges [.disp, .shown, .presents] s ({ s with disp := d }).present := by
  intro p hp
  cases p with
  | disp | shown | presents => exact absurd (by simp) hp
  | v | stack | mem => exact fun _ => rfl
  | _ => exact rfl

/-! ### The frame of every instruction -/

theorem execRet_onlyChanges (s : State) : ∃ t, execRet s = .next t ∧ OnlyChanges [.pc, .sp, .status] s t := by
  unfold execRet
  split
  · exact ⟨_, rfl, (s.onlyChanges_raise _).mono (by simp)⟩
  · exact ⟨_, rfl, (s.onlyChanges_pop.mono (by simp)).trans ((s.pop.onlyChanges_setPc _).mono (by simp))⟩

theorem execCall_onlyChanges (nnn : Addr12) (s : State) :
    ∃ t, execCall nnn s = .next t ∧ OnlyChanges [.pc, .sp, .stack, .status] s t := by
  unfold execCall
  split
  · exact ⟨_, rfl, (s.onlyChanges_raise _).mono (by simp)⟩
  · exact ⟨_, rfl, ((s.onlyChanges_push _).mono (by simp)).trans (((s.push _).onlyChanges_setPc _).mono (by simp))⟩

/-- Every instruction answers a next state and changes its own parts only. -/
theorem exec_onlyChanges (i : Instr) (s : State) : ∃ t, exec i s = .next t ∧ OnlyChanges (mayChange i) s t := by
  cases hi : i.recognised
  case false => exact ⟨s, exec_of_not_recognised hi s, .refl _ s⟩
  case true =>
  cases i with
  | cls => exact ⟨_, rfl, s.onlyChanges_present _⟩
  | drw x y n => exact ⟨_, rfl, s.onlyChanges_present _⟩
  | ret => exact execRet_onlyChanges s
  | call nnn => exact execCall_onlyChanges nnn s
  | jp | jpV0 => exact ⟨_, rfl, s.onlyChanges_setPc _⟩
  | seImm | sneImm | seReg | sneReg | skp | sknp => exact ⟨_, rfl, s.onlyChanges_skipIf _⟩
  | ldImm | addImm | ldReg | orReg | andReg | xorReg | ldVxDt => exact ⟨_, rfl, s.onlyChanges_setV _ _⟩
  | addReg | sub | shr | subn | shl => exact ⟨_, rfl, s.onlyChanges_setResultFlag _ _ _⟩
  | ldVxMem => exact ⟨_, rfl, s.onlyChanges_loadBlock _⟩
  | rnd x nn =>
    exact ⟨_, rfl, (s.onlyChanges_drawByte.mono (by simp [mayChange])).trans
      ((s.drawByte.2.onlyChanges_setV _ _).mono (by simp [mayChange]))⟩
  | ldI | addI | ldF => exact ⟨_, rfl, s.onlyChanges_setI _⟩
  | ldB => exact ⟨_, rfl, s.onlyChanges_withMem _⟩
  | ldMemVx => exact ⟨_, rfl, s.onlyChanges_storeBlock _⟩
  | ldDtVx => exact ⟨_, rfl, s.onlyChanges_setDt _⟩
  | ldVxK | ldStVx => exact ⟨_, rfl, .refl _ s⟩
  | _ => cases hi

end Machine

/-- Settles O17, instruction by instruction from the frames of the state operations. -/
theorem everyInstructionChangesOnlyItsParts : Obligations.EveryInstructionChangesOnlyItsParts := Machine.exec_onlyChanges

namespace Machine

/-- A part that is not the instruction's reads the same after it. -/
theorem exec_same {i : Instr} {s t : State} (h : exec i s = .next t) {p : Part} (hp : p ∉ mayChange i) : p.same s t := by
  obtain ⟨u, hu, hframe⟩ := exec_onlyChanges i s
  obtain rfl : u = t := by simpa [h] using hu.symm
  exact hframe p hp

/-! ### Which instructions own a part -/

theorem dt_mem_mayChange {i : Instr} (h : .dt ∈ mayChange i) : ∃ x, i = .ldDtVx x := by
  cases i with
  | ldDtVx x => exact ⟨x, rfl⟩
  | _ => exact absurd h (of_decide_eq_false rfl)

theorem mem_mem_mayChange {i : Instr} (h : .mem ∈ mayChange i) : (∃ x, i = .ldB x) ∨ ∃ x, i = .ldMemVx x := by
  cases i with
  | ldB x => exact .inl ⟨x, rfl⟩
  | ldMemVx x => exact .inr ⟨x, rfl⟩
  | _ => exact absurd h (of_decide_eq_false rfl)

/-- The parts that a call and a return change beside `PC`. -/
def callParts : List Part := [.sp, .stack, .status]

theorem ret_or_call_of_mem_mayChange {i : Instr} {p : Part} (hp : p ∈ callParts) (h : p ∈ mayChange i) :
    i = .ret ∨ ∃ nnn, i = .call nnn := by
  suffices hnot : (i = .ret ∨ ∃ nnn, i = .call nnn) ∨ ∀ q ∈ callParts, q ∉ mayChange i from
    hnot.resolve_right fun hnot => hnot p hp h
  cases i with
  | ret => exact .inl (.inl rfl)
  | call nnn => exact .inl (.inr ⟨nnn, rfl⟩)
  | _ => exact .inr (of_decide_eq_true rfl)

end Machine

end Sys2Proof
end

section
/-! Register load, the 8-bit ALU and the random byte (42_alu.md): a result and its flag, and the arithmetic of the bytes. -/

namespace Sys2Proof

namespace Machine

/-! ### A result and its flag -/

theorem State.getV_vf_setResultFlag (s : State) (x : Nibble) (b : Byte) (f : Bool) :
    (s.setResultFlag x b f).getV vf = flagByte f :=
  (s.setResultFlag_getV x vf b f).trans (if_pos rfl)

theorem State.getV_setResultFlag_self (s : State) {x : Nibble} (hx : x ≠ vf) (b : Byte) (f : Bool) :
    (s.setResultFlag x b f).getV x = b :=
  (s.setResultFlag_getV x x b f).trans ((if_neg hx).trans (if_pos rfl))

theorem State.getV_setResultFlag_other (s : State) {x r : Nibble} (hx : r ≠ x) (hvf : r ≠ vf) (b : Byte) (f : Bool) :
    (s.setResultFlag x b f).getV r = s.getV r :=
  (s.setResultFlag_getV x r b f).trans ((if_neg hvf).trans (if_neg hx))

/-- What a result with its flag leaves: the flag in `VF`, the result in `V[x]` unless that is `VF`, and all else as before. -/
theorem State.setResultFlag_spec (s : State) (x : Nibble) (b : Byte) (f : Bool) :
    (s.setResultFlag x b f).getV vf = flagByte f ∧ (x ≠ vf → (s.setResultFlag x b f).getV x = b) ∧
      (∀ r, r ≠ x → r ≠ vf → (s.setResultFlag x b f).getV r = s.getV r) ∧
      OnlyChanges [.v] s (s.setResultFlag x b f) :=
  ⟨s.getV_vf_setResultFlag x b f, fun hx => s.getV_setResultFlag_self hx b f,
    fun _ hx hvf => s.getV_setResultFlag_other hx hvf b f, s.onlyChanges_setResultFlag x b f⟩

theorem flagByte_decide (p : Prop) [Decidable p] : flagByte (decide p) = if p then 1 else 0 := by
  by_cases hp : p <;> simp [flagByte, hp]

theorem toNat_flagByte (f : Bool) : (flagByte f).toNat = f.toNat := by cases f <;> rfl

theorem toNat_shiftOutRight (a : Byte) : (shiftOutRight a).toNat = a.toNat % 2 := by
  rw [shiftOutRight, BitVec.getLsbD, Nat.toNat_testBit, pow_zero, Nat.div_one]

theorem toNat_shiftOutLeft (a : Byte) : (shiftOutLeft a).toNat = a.toNat / 128 := by
  rw [shiftOutLeft, BitVec.getLsbD, Nat.toNat_testBit]
  omega

theorem toNat_shiftLeft_one (a : Byte) : (a <<< 1).toNat = a.toNat * 2 % 256 := by
  rw [BitVec.toNat_shiftLeft, Nat.shiftLeft_eq, pow_one]

theorem toNat_byte_sub (a b : Byte) : (a - b).toNat = (a.toNat + 256 - b.toNat) % 256 := by
  rw [BitVec.toNat_sub]
  omega

/-! ### Bytes under a mask -/

theorem and_not_eq_zero_iff_bits (v m : Byte) : v &&& ~~~m = 0 ↔ ∀ k < 8, v.getLsbD k = true → m.getLsbD k = true := by
  have hbits : v &&& ~~~m = 0 ↔ ∀ k < 8, (v &&& ~~~m).getLsbD k = false :=
    ⟨fun h k _ => by simp [h], fun h => BitVec.eq_of_getLsbD_eq fun k hk => by simp [h k hk]⟩
  rw [hbits]
  refine forall₂_congr fun k hk => ?_
  simp [hk]

theorem and_not_eq_zero_iff_exists_and (v m : Byte) : v &&& ~~~m = 0 ↔ ∃ r, v = m &&& r := by
  constructor
  · intro h
    refine ⟨v, BitVec.eq_of_getLsbD_eq fun k hk => ?_⟩
    have hk := (and_not_eq_zero_iff_bits v m).mp h k hk
    rw [BitVec.getLsbD_and]
    cases hv : v.getLsbD k
    · exact (Bool.and_false _).symm
    · rw [hk hv, Bool.and_true]
  · rintro ⟨r, rfl⟩
    rw [BitVec.and_comm m r, BitVec.and_assoc, BitVec.and_not_self]
    exact BitVec.and_zero

/-- The number `v` has no bit below bit `w` but those of `p`. -/
def bitsIn (p : Nat → Bool) : Nat → Nat → Bool
  | 0, _     => true
  | w + 1, v => bitsIn p w v && (!v.testBit w || p w)

theorem bitsIn_eq_true_iff (p : Nat → Bool) (w v : Nat) :
    bitsIn p w v = true ↔ ∀ k < w, v.testBit k = true → p k = true := by
  induction w with
  | zero => simp [bitsIn]
  | succ w ih =>
    rw [bitsIn, Bool.and_eq_true, ih, Nat.forall_lt_succ_right]
    cases v.testBit w <;> simp

theorem bitsIn_succ_of_lt (p : Nat → Bool) {w v : Nat} (hv : v < 2 ^ w) : bitsIn p (w + 1) v = bitsIn p w v := by
  rw [bitsIn, Nat.testBit_lt_two_pow hv, Bool.not_false, Bool.true_or, Bool.and_true]

theorem bitsIn_two_pow_add (p : Nat → Bool) (v : Nat) {w n : Nat} (hw : w ≤ n) :
    bitsIn p w (2 ^ n + v) = bitsIn p w v := by
  induction w with
  | zero => rfl
  | succ w ih => rw [bitsIn, bitsIn, ih (Nat.le_of_lt hw), Nat.testBit_two_pow_add_gt hw]

theorem bitsIn_succ_two_pow_add (p : Nat → Bool) {w v : Nat} (hv : v < 2 ^ w) :
    bitsIn p (w + 1) (2 ^ w + v) = (bitsIn p w v && p w) := by
  rw [bitsIn, bitsIn_two_pow_add p v (Nat.le_refl w), Nat.testBit_two_pow_add_eq, Nat.testBit_lt_two_pow hv]
  rfl

/-- A mask with `n` bits has `2 ^ n` submasks: each further bit of the mask doubles them. -/
theorem countP_bitsIn (p : Nat → Bool) (w : Nat) :
    (List.range (2 ^ w)).countP (bitsIn p w) = 2 ^ (List.range w).countP p := by
  induction w with
  | zero => rfl
  | succ w ih =>
    have hlow : (List.range (2 ^ w)).countP (bitsIn p (w + 1)) = (List.range (2 ^ w)).countP (bitsIn p w) :=
      List.countP_congr fun v hv => by rw [bitsIn_succ_of_lt p (List.mem_range.mp hv)]
    have hhigh : (List.range (2 ^ w)).countP (bitsIn p (w + 1) ∘ (2 ^ w + ·)) =
        (List.range (2 ^ w)).countP fun v => bitsIn p w v && p w :=
      List.countP_congr fun v hv => by rw [Function.comp, bitsIn_succ_two_pow_add p (List.mem_range.mp hv)]
    rw [Nat.pow_succ, Nat.mul_two, List.range_add, List.countP_append, List.countP_map, hlow, hhigh, List.range_succ,
      List.countP_append, List.countP_singleton]
    cases p w
    · simp [ih]
    · simp [ih, Nat.pow_succ, Nat.mul_two]

/-- The bytes with no bit outside the mask, counted. -/
theorem countP_bytes_in_mask (m : Byte) :
    (List.range 256).countP (fun v => BitVec.ofNat 8 v &&& ~~~m == 0) = 2 ^ (List.range 8).countP m.getLsbD := by
  rw [← countP_bitsIn m.getLsbD 8]
  refine List.countP_congr fun v _ => ?_
  rw [beq_iff_eq, and_not_eq_zero_iff_bits, bitsIn_eq_true_iff]
  refine forall₂_congr fun k hk => ?_
  rw [BitVec.getLsbD_ofNat, decide_eq_true hk, Bool.true_and]

end Machine

/-- Settles O20: the form answers `setV` of the sum. -/
theorem addImmediateWrapsWithoutFlag : Obligations.AddImmediateWrapsWithoutFlag := fun x nn s =>
  have honly := s.onlyV_setV x (s.getV x + nn)
  ⟨_, rfl, (congrArg BitVec.toNat (s.getV_setV_self x _)).trans (BitVec.toNat_add _ _), honly,
    fun hx => honly Machine.vf hx.symm, s.onlyChanges_setV x _⟩

/-- Settles O21: the form answers `setV` of `V[y]`; with y = x that is the value `V[y]` had. -/
theorem loadRegisterCopies : Obligations.LoadRegisterCopies := fun x y s => by
  refine ⟨(Laws.EncodeAccepted.ldReg x y).decode_encode rfl,
    _, rfl, s.getV_setV_self x _, ?_, s.onlyV_setV x _, s.onlyChanges_setV x _⟩
  rw [s.setV_getV, ite_self]

/-- Settles O22: each form answers `setV` of its bitwise result. -/
theorem logicOperationsLeaveFlagAlone : Obligations.LogicOperationsLeaveFlagAlone := fun x y s => by
  refine ⟨⟨_, rfl, fun k _ => ?_, s.onlyV_setV x _, s.onlyChanges_setV x _⟩,
    ⟨_, rfl, fun k _ => ?_, s.onlyV_setV x _, s.onlyChanges_setV x _⟩,
    ⟨_, rfl, fun k _ => ?_, s.onlyV_setV x _, s.onlyChanges_setV x _⟩⟩
  · rw [s.getV_setV_self, BitVec.getLsbD_or]
  · rw [s.getV_setV_self, BitVec.getLsbD_and]
  · rw [s.getV_setV_self, BitVec.getLsbD_xor]

/-- Settles O23: the flag is whether the sum of the old operands is above 255. -/
theorem addRegisterReportsCarry : Obligations.AddRegisterReportsCarry := fun x y s => by
  obtain ⟨hflag, hresult, hother, hframe⟩ :=
    s.setResultFlag_spec x (s.getV x + s.getV y) (Machine.carryOut (s.getV x) (s.getV y))
  refine ⟨_, rfl, hflag.trans (Machine.flagByte_decide _), fun hx => ?_, hother, hframe⟩
  rw [hresult hx, BitVec.toNat_add]

namespace Machine

/-- A subtraction with its flag, which is the borrow (decision D5). -/
theorem State.setResultFlag_sub_spec (s : State) (x : Nibble) (a b : Byte) :
    (s.setResultFlag x (a - b) (subFlag a b)).getV vf = (if a.toNat < b.toNat then 1 else 0) ∧
      (x ≠ vf → ((s.setResultFlag x (a - b) (subFlag a b)).getV x).toNat = (a.toNat + 256 - b.toNat) % 256) ∧
      (∀ r, r ≠ x → r ≠ vf → (s.setResultFlag x (a - b) (subFlag a b)).getV r = s.getV r) ∧
      OnlyChanges [.v] s (s.setResultFlag x (a - b) (subFlag a b)) := by
  obtain ⟨hflag, hresult, hother, hframe⟩ := s.setResultFlag_spec x (a - b) (subFlag a b)
  refine ⟨hflag.trans (flagByte_decide _), fun hx => ?_, hother, hframe⟩
  rw [hresult hx, toNat_byte_sub]

end Machine

/-- Settles O24: the two forms are one subtraction, with the operands in either order. -/
theorem subtractionsReportBorrow : Obligations.SubtractionsReportBorrow := fun x y s =>
  ⟨⟨_, rfl, s.setResultFlag_sub_spec x (s.getV x) (s.getV y)⟩,
    ⟨_, rfl, s.setResultFlag_sub_spec x (s.getV y) (s.getV x)⟩⟩

/-- Settles O25: the meaning does not read Y, so that it answers one state for all Y. -/
theorem shiftsReportTheBitMovedOut : Obligations.ShiftsReportTheBitMovedOut := fun x y z s => by
  constructor
  · obtain ⟨hflag, hresult, hother, hframe⟩ :=
      s.setResultFlag_spec x (s.getV x >>> 1) (Machine.shiftOutRight (s.getV x))
    refine ⟨_, rfl, rfl, ?_, fun hx => ?_, hother, hframe⟩
    · rw [hflag, Machine.toNat_flagByte, Machine.toNat_shiftOutRight]
    · rw [hresult hx, BitVec.toNat_ushiftRight, Nat.shiftRight_eq_div_pow, pow_one]
  · obtain ⟨hflag, hresult, hother, hframe⟩ :=
      s.setResultFlag_spec x (s.getV x <<< 1) (Machine.shiftOutLeft (s.getV x))
    refine ⟨_, rfl, rfl, ?_, fun hx => ?_, hother, hframe⟩
    · rw [hflag, Machine.toNat_flagByte, Machine.toNat_shiftOutLeft]
    · rw [hresult hx, Machine.toNat_shiftLeft_one]

/-- Settles O26: the draw and then one register write; the submasks of NN are counted by `countP_bytes_in_mask`. -/
theorem randomByteIsMasked : Obligations.RandomByteIsMasked := fun x nn s => by
  have hresult := s.drawByte.2.getV_setV_self x (nn &&& Config.randomByte s.draws)
  refine ⟨(Laws.EncodeAccepted.rnd x nn).decode_encode rfl,
    ⟨_, rfl, hresult, ?_, rfl, s.drawByte.2.onlyV_setV x _, ?_⟩,
    fun v => Machine.and_not_eq_zero_iff_exists_and v nn, Machine.countP_bytes_in_mask nn⟩
  · exact (Machine.and_not_eq_zero_iff_exists_and _ nn).mpr ⟨_, hresult⟩
  · exact fun _ => Machine.exec_same (i := .rnd x nn) rfl

/-- Settles O48: a register write of `DT`, and a write of `DT`. -/
theorem timerIsReadAndArmed : Obligations.TimerIsReadAndArmed := fun x s =>
  ⟨⟨_, rfl, s.getV_setV_self x s.dt, s.onlyV_setV x s.dt, s.onlyChanges_setV x s.dt⟩,
    ⟨_, rfl, rfl, s.onlyChanges_setDt (s.getV x)⟩⟩

end Sys2Proof
end

section
/-! Control flow (41_control_flow.md) and the key skips (45_keys_timers.md rules R160, R161): the value each instruction leaves
in `PC`, and what a call and a return do to the stack. -/

namespace Sys2Proof

namespace Machine

/-! ### Call and return -/

theorem execRet_of_sp_eq_zero {s : State} (h : s.sp = 0) : execRet s = .next (s.raise .stackUnderflow) := if_pos h

theorem execRet_of_sp_ne_zero {s : State} (h : s.sp ≠ 0) : execRet s = .next (s.pop.setPc s.top) := if_neg h

theorem execCall_of_sp_eq_fifteen (nnn : Addr12) {s : State} (h : s.sp = 15) :
    execCall nnn s = .next (s.raise .stackOverflow) := if_pos h

theorem execCall_of_sp_ne_fifteen (nnn : Addr12) {s : State} (h : s.sp ≠ 15) :
    execCall nnn s = .next ((s.push s.pc).setPc (addrOf nnn)) := if_neg h

/-- All that `00EE` can do. -/
theorem exec_ret_cases {s t : State} (h : exec .ret s = .next t) :
    (s.sp = 0 ∧ t = s.raise .stackUnderflow) ∨ (s.sp ≠ 0 ∧ t = s.pop.setPc s.top) := by
  by_cases hsp : s.sp = 0
  · cases h.symm.trans (execRet_of_sp_eq_zero hsp)
    exact .inl ⟨hsp, rfl⟩
  · cases h.symm.trans (execRet_of_sp_ne_zero hsp)
    exact .inr ⟨hsp, rfl⟩

/-- All that `2NNN` can do. -/
theorem exec_call_cases {nnn : Addr12} {s t : State} (h : exec (.call nnn) s = .next t) :
    (s.sp = 15 ∧ t = s.raise .stackOverflow) ∨ (s.sp ≠ 15 ∧ t = (s.push s.pc).setPc (addrOf nnn)) := by
  by_cases hsp : s.sp = 15
  · cases h.symm.trans (execCall_of_sp_eq_fifteen nnn hsp)
    exact .inl ⟨hsp, rfl⟩
  · cases h.symm.trans (execCall_of_sp_ne_fifteen nnn hsp)
    exact .inr ⟨hsp, rfl⟩

theorem fin_add_one_val {k : Fin 16} (h : k.val < 15) : (k + 1).val = k.val + 1 := by
  rw [Fin.val_add_one_of_lt]
  exact h

theorem fin_sub_one_val {k : Fin 16} (h : 0 < k.val) : (k - 1).val = k.val - 1 := by
  rw [Fin.val_sub_one_of_ne_zero]
  exact Fin.pos_iff_ne_zero.mp h

/-- A machine stopped by a stack fault takes no step. -/
theorem step_raise_stackUnderflow (s : State) : step (s.raise .stackUnderflow) = .fault .stackUnderflow := rfl

theorem step_raise_stackOverflow (s : State) : step (s.raise .stackOverflow) = .fault .stackOverflow := rfl

/-! ### The target of BNNN and the key number -/

/-- The largest target of BNNN, 0xFFF + 0xFF, fits 16 bits (decision D24). -/
theorem addrOf_add_byte_toNat (nnn : Addr12) (b : Byte) : (addrOf nnn + b.zeroExtend 16).toNat = nnn.toNat + b.toNat := by
  rw [index_add_byte_toNat, addrOf_toNat]
  omega

theorem keyPressed_keyOf (s : State) (b : Byte) : s.keyPressed (keyOf b) = s.keys.getLsbD (b.toNat % 16) := by
  rw [State.keyPressed, keyOf, BitVec.extractLsb'_toNat, Nat.shiftRight_zero]

end Machine

/-- Settles O35: the form answers `setPc` of the zero-extended NNN. -/
theorem jumpSetsPc : Obligations.JumpSetsPc := fun nnn s => by
  have hpc : (s.setPc (Machine.addrOf nnn)).pc.toNat = nnn.toNat := Machine.addrOf_toNat nnn
  exact ⟨_, rfl, hpc, fun h => (Machine.State.atEnd_iff _).mpr (hpc.symm ▸ h), s.onlyChanges_setPc _⟩

/-- Settles O36: the form answers `setPc` of the sum, which 16 bits hold. -/
theorem jumpWithOffsetIsNotReduced : Obligations.JumpWithOffsetIsNotReduced := fun nnn s =>
  ⟨_, rfl, Machine.addrOf_add_byte_toNat nnn (s.getV 0), s.onlyChanges_setPc _⟩

/-- Settles O38: each form answers `skipIf` of its condition. -/
theorem skipOnRegisters : Obligations.SkipOnRegisters := fun x y s => by
  have heq := s.skipIf_beq_pc (s.getV x) (s.getV y)
  have hne := s.skipIf_bne_pc (s.getV x) (s.getV y)
  refine ⟨(Laws.EncodeAccepted.seReg x y).decode_encode rfl, (Laws.EncodeAccepted.sneReg x y).decode_encode rfl,
    ⟨_, rfl, heq, fun hxy => ?_, s.onlyChanges_skipIf _⟩, ⟨_, rfl, hne, fun hxy => ?_, s.onlyChanges_skipIf _⟩⟩
  · rw [heq, if_pos (congrArg s.getV hxy)]
  · rw [hne, if_pos (congrArg s.getV hxy)]

/-- Settles O47: each form answers `skipIf` of the key of the low nibble. -/
theorem keySkipsSampleOneKey : Obligations.KeySkipsSampleOneKey := fun x s => by
  refine ⟨⟨_, rfl, ?_, s.onlyChanges_skipIf _⟩, ⟨_, rfl, ?_, s.onlyChanges_skipIf _⟩⟩
  · rw [Machine.State.skipIf_pc, Machine.keyPressed_keyOf]
  · rw [Machine.State.skipIf_pc, Machine.keyPressed_keyOf]
    cases s.keys.getLsbD ((s.getV x).toNat % 16) <;> rfl

/-- Settles O39: below depth 15 the form answers a push and then a jump. -/
theorem callPushesReturnAddress : Obligations.CallPushesReturnAddress := fun nnn s hsp => by
  have hne : s.sp ≠ 15 := fun h => absurd hsp (by rw [h]; decide)
  refine ⟨_, Machine.execCall_of_sp_ne_fifteen nnn hne, Machine.addrOf_toNat nnn, Machine.fin_add_one_val hsp,
    (s.push_slot s.pc (s.sp + 1)).trans (if_pos rfl), fun k hk => (s.push_slot s.pc k).trans (if_neg hk), ?_⟩
  exact ((s.onlyChanges_push s.pc).mono (by simp)).trans (((s.push s.pc).onlyChanges_setPc _).mono (by simp))

/-- Settles O40: at depth 15 the form answers the raised condition. -/
theorem callAtDepthFifteenOverflows : Obligations.CallAtDepthFifteenOverflows := fun nnn s hsp =>
  ⟨_, Machine.execCall_of_sp_eq_fifteen nnn (Fin.ext hsp), rfl, s.onlyChanges_raise _, Machine.step_raise_stackOverflow s⟩

/-- Settles O41: above depth 0 the form answers a pop and then a jump to the popped slot. -/
theorem returnPopsReturnAddress : Obligations.ReturnPopsReturnAddress := fun s hsp =>
  ⟨_, Machine.execRet_of_sp_ne_zero (Fin.pos_iff_ne_zero.mp hsp), rfl, Machine.fin_sub_one_val hsp,
    (s.onlyChanges_pop.mono (by simp)).trans ((s.pop.onlyChanges_setPc _).mono (by simp))⟩

/-- Settles O42: at depth 0 the form answers the raised condition, above it a pop and a jump. -/
theorem returnOnEmptyStackUnderflows : Obligations.ReturnOnEmptyStackUnderflows := fun s =>
  ⟨fun hsp => ⟨_, Machine.execRet_of_sp_eq_zero (Fin.ext hsp), rfl, s.onlyChanges_raise _,
      Machine.step_raise_stackUnderflow s⟩,
    fun hsp => ⟨_, Machine.execRet_of_sp_ne_zero fun h => hsp (congrArg Fin.val h), rfl⟩⟩

/-! ### PC and the registers after any instruction -/

namespace Machine

/-- `PC` after any instruction: the overriding table gives it, and every other instruction leaves the post-fetch value. -/
theorem exec_pc {i : Instr} {s t : State} (h : exec i s = .next t) : t.pc = pcAfter s.pc s i := by
  cases i with
  | jp | jpV0 => cases h; rfl
  | seImm | seReg => cases h; exact s.skipIf_beq_pc _ _
  | sneImm | sneReg => cases h; exact (s.skipIf_bne_pc _ _).trans (ite_not _ _ _).symm
  | skp x =>
    cases h
    rw [State.skipIf_pc, keyPressed_keyOf, pcAfter]
  | sknp x =>
    cases h
    rw [State.skipIf_pc, keyPressed_keyOf, pcAfter]
    cases s.keys.getLsbD ((s.getV x).toNat % 16) <;> rfl
  | ret =>
    obtain ⟨hsp, rfl⟩ | ⟨hsp, rfl⟩ := exec_ret_cases h
    · exact (if_pos hsp).symm
    · exact (if_neg hsp).symm
  | call nnn =>
    obtain ⟨hsp, rfl⟩ | ⟨hsp, rfl⟩ := exec_call_cases h
    · exact (if_pos hsp).symm
    · exact (if_neg hsp).symm
  | _ => exact exec_same h (p := .pc) (of_decide_eq_false rfl)

end Machine

/-- Settles O18: an instruction that writes registers writes `V[x]`, its flag, or the block up to `V[x]`; no other has `V` among
its parts. -/
theorem registersWrittenByTheirWritersOnly : Obligations.RegistersWrittenByTheirWritersOnly := fun i s t r h hr => by
  cases i with
  | ldImm | addImm | ldReg | orReg | andReg | xorReg | ldVxDt =>
    cases h
    exact s.onlyV_setV _ _ r (ne_of_beq_false hr)
  | rnd x nn =>
    cases h
    exact s.drawByte.2.onlyV_setV x _ r (ne_of_beq_false hr)
  | addReg | sub | shr | subn | shl =>
    cases h
    obtain ⟨hx, hvf⟩ := Bool.or_eq_false_iff.mp hr
    exact s.getV_setResultFlag_other (ne_of_beq_false hx) (ne_of_beq_false hvf) _ _
  | ldVxMem x =>
    cases h
    have hlt : x < r := BitVec.not_le.mp (of_decide_eq_false hr)
    exact (s.loadBlock_getV x.isLt r).trans (if_neg (Nat.not_lt.mpr hlt))
  | _ => exact Machine.exec_same h (p := .v) (of_decide_eq_false rfl) r

end Sys2Proof
end

section
/-! The display instructions (44_display.md): the row-by-row XOR of a sprite, cell by cell. A cell is computed back to the sprite
column and row that land on it, as `covers` does. -/

namespace Sys2Proof

namespace Machine

/-- The sprite column that lands on display column `x`, if it is below 8 (44_display.md rule R151). -/
def columnOn (x0 : Byte) (x : Fin 64) : Nat := (x.val + 256 - x0.toNat) % 64

/-- The sprite row that lands on display row `y`, if it is below N. -/
def rowOn (y0 : Byte) (y : Fin 32) : Nat := (y.val + 256 - y0.toNat) % 32

theorem eq_spriteCol_iff (x0 : Byte) (x : Fin 64) {c : Nat} (hc : c < 64) : x = spriteCol x0 c ↔ columnOn x0 x = c := by
  have hx := x.isLt
  rw [Fin.ext_iff, columnOn]
  show x.val = (x0.toNat + c) % 64 ↔ _
  omega

theorem eq_spriteRow_iff (y0 : Byte) (y : Fin 32) {r : Nat} (hr : r < 32) : y = spriteRow y0 r ↔ rowOn y0 y = r := by
  have hy := y.isLt
  rw [Fin.ext_iff, rowOn]
  show y.val = (y0.toNat + r) % 32 ↔ _
  omega

/-- One more column of a sprite row flips the cell it lands on, where its bit is set. -/
theorem Display.drawRow_succ_pixel (d : Display) (x0 y0 : Byte) (r : Nat) (b : Byte) (c : Nat) (x : Fin 64) (y : Fin 32) :
    (d.drawRow x0 y0 r b (c + 1)).pixel x y =
      ((d.drawRow x0 y0 r b c).pixel x y ^^ (spriteBit b c && decide (x = spriteCol x0 c ∧ y = spriteRow y0 r))) := by
  rw [Display.drawRow]
  cases spriteBit b c
  · exact (Bool.xor_false _).symm
  · exact Display.toggle_pixel _ _ _ _ _

/-- The columns of a sprite row, at most 64, land on different cells, so each cell is flipped by its own column at most. -/
theorem Display.drawRow_pixel (d : Display) (x0 y0 : Byte) {r n : Nat} (hr : r < 32) (hn : n ≤ 64) (b : Byte) (x : Fin 64)
    (y : Fin 32) :
    (d.drawRow x0 y0 r b n).pixel x y =
      (d.pixel x y ^^ (decide (columnOn x0 x < n ∧ rowOn y0 y = r) && spriteBit b (columnOn x0 x))) := by
  induction n with
  | zero => simp [Display.drawRow]
  | succ n ih =>
    rw [Display.drawRow_succ_pixel, ih (Nat.le_of_lt hn)]
    simp only [eq_spriteCol_iff x0 x hn, eq_spriteRow_iff y0 y hr]
    rcases Nat.lt_trichotomy (columnOn x0 x) n with hlt | heq | hgt
    · simp [hlt, hlt.ne, Nat.lt_succ_of_lt hlt]
    · simp [heq, Bool.and_comm]
    · simp [hgt.ne', hgt.not_gt, Nat.not_lt.mpr hgt]

theorem covers_eq (s : State) (x0 y0 : Byte) (n : Nat) (x : Fin 64) (y : Fin 32) :
    covers s x0 y0 n x y =
      (decide (columnOn x0 x < 8 ∧ rowOn y0 y < n) && spriteBit (s.spriteByte (rowOn y0 y)) (columnOn x0 x)) := by
  rw [Bool.decide_and]
  rfl

/-- The rows of a sprite, at most 32, land on different rows of the display. -/
theorem State.drawRows_pixel (s : State) (x0 y0 : Byte) {n : Nat} (hn : n ≤ 32) (x : Fin 64) (y : Fin 32) :
    (s.drawRows x0 y0 n).pixel x y = (s.disp.pixel x y ^^ covers s x0 y0 n x y) := by
  induction n with
  | zero => simp [State.drawRows, covers_eq]
  | succ n ih =>
    rw [State.drawRows, Display.drawRow_pixel _ _ _ hn (by decide), ih (Nat.le_of_lt hn), covers_eq, covers_eq]
    rcases Nat.lt_trichotomy (rowOn y0 y) n with hlt | heq | hgt
    · simp [hlt, hlt.ne, Nat.lt_succ_of_lt hlt]
    · simp [heq]
    · simp [hgt.ne', hgt.not_gt, Nat.not_lt.mpr hgt]

/-- What `DXYN` does (44_display.md rule R152). -/
theorem exec_drw_next (x y n : Nibble) (s : State) :
    ∃ t, exec (.drw x y n) s = .next t ∧
      (∀ px py, t.disp.pixel px py = (s.disp.pixel px py ^^ covers s (s.getV x) (s.getV y) n.toNat px py)) ∧
      t.shown = t.disp ∧ t.presents = s.presents + 1 ∧ OnlyChanges [.disp, .shown, .presents] s t :=
  ⟨_, rfl, s.drawRows_pixel _ _ (by omega), rfl, rfl, s.onlyChanges_present _⟩

/-- The sprite bits depend on `I` and memory alone. -/
theorem covers_congr {s t : State} (hi : t.i = s.i) (hmem : ∀ a, t.mem.read a = s.mem.read a) (x0 y0 : Byte) (n : Nat)
    (x : Fin 64) (y : Fin 32) : covers t x0 y0 n x y = covers s x0 y0 n x y := by
  simp only [covers, hi, hmem]

end Machine

/-- Settles O43: the form answers the blank display, presented. -/
theorem clearScreenBlanksDisplay : Obligations.ClearScreenBlanksDisplay := fun s =>
  ⟨_, rfl, Machine.Display.blank_pixel, rfl, rfl, s.onlyChanges_present _⟩

/-- Settles O44: no column and no row of a sprite lands twice on one cell. -/
theorem drawXorsTheCoveredCells : Obligations.DrawXorsTheCoveredCells := Machine.exec_drw_next

/-- Settles O45: the first draw leaves the registers, `I` and memory, so the second flips the same cells back. -/
theorem drawTwiceRestoresDisplay : Obligations.DrawTwiceRestoresDisplay := fun x y n s => by
  obtain ⟨t, ht, hdraw, -, -, hframe⟩ := Machine.exec_drw_next x y n s
  obtain ⟨u, hu, hredraw, -⟩ := Machine.exec_drw_next x y n t
  have hv : ∀ r, t.getV r = s.getV r := hframe .v (by decide)
  refine ⟨t, u, ht, hu, fun px py => ?_⟩
  rw [hredraw, hv, hv, Machine.covers_congr (hframe .i (by decide)) (hframe .mem (by decide)), hdraw, Bool.xor_assoc,
    Bool.xor_self, Bool.xor_false]

end Sys2Proof
end

section
/-! Memory accesses and the loaded image (20_memory.md, 70_reset_and_hazards.md): data addresses, a store seen by a fetch, reset
and `loadImage`. -/

namespace Sys2Proof

namespace Machine

/-- `MemRead` at an index reduced to 16 bits first: 4096 divides 65536. -/
theorem State.memRead_index_add (s : State) (k : Nat) :
    s.memRead (s.i + BitVec.ofNat 16 k).toNat = s.memRead (s.dataAddr k) := by
  have haddr : (s.i + BitVec.ofNat 16 k).toNat % 4096 = s.dataAddr k % 4096 := by
    rw [BitVec.toNat_add, BitVec.toNat_ofNat, State.dataAddr]
    omega
  exact congrArg s.mem.read haddr

/-! ### Loaded bytes -/

theorem Memory.read_writeList_outside (m : Memory) (bs : List Byte) {a a' : Nat} (h : a' < a ∨ a + bs.length ≤ a') :
    (m.writeList a bs).read a' = m.read a' := by
  induction bs generalizing m a with
  | nil => rfl
  | cons b bs ih =>
    rw [List.length_cons] at h
    rw [Memory.writeList, ih (m.write a b) (by omega), Memory.read_write, if_neg (by omega)]

theorem Memory.read_writeList_inside (m : Memory) (bs : List Byte) (a k : Nat) (h : k < bs.length) :
    (m.writeList a bs).read (a + k) = bs[k] := by
  induction bs generalizing m a k with
  | nil => exact absurd h k.not_lt_zero
  | cons b bs ih =>
    rw [Memory.writeList]
    cases k with
    | zero => rw [Memory.read_writeList_outside _ _ (.inl (by omega)), Memory.read_write, if_pos a.add_zero,
      List.getElem_cons_zero]
    | succ k => rw [show a + (k + 1) = a + 1 + k by omega, ih, List.getElem_cons_succ]

theorem resetByte_of_le {a : Nat} (h : 80 ≤ a) : resetByte a = 0 :=
  List.getD_eq_default _ _ h

theorem reset_getV (r : Nibble) : State.reset.getV r = 0 := Vector.getElem_replicate _

theorem reset_stack (k : Fin 16) : State.reset.stack[k] = 0 := Vector.getElem_replicate _

end Machine

/-- Settles O33: a data access reduces its address modulo 4096. -/
theorem dataAddressesWrap : Obligations.DataAddressesWrap := fun s k b =>
  ⟨rfl, s.memRead_index_add k, fun a => s.memWrite_read (s.dataAddr k) a b⟩

/-- Settles O34: with `I` at the post-fetch `PC` below 0xFFE, the first two stored bytes lie at `PC` and `PC + 1`. -/
theorem storeIsSeenByNextFetch : Obligations.StoreIsSeenByNextFetch := fun x s hx hi hpc => by
  have hx1 : 1 < x.toNat + 1 := Nat.succ_lt_succ (Nat.pos_of_ne_zero fun h => hx (BitVec.eq_of_toNat_eq h))
  have hlen : x.toNat + 1 ≤ 4096 := by omega
  have h0 := s.storeBlock_read_dataAddr hlen (k := 0) (by omega)
  have h1 := s.storeBlock_read_dataAddr hlen hx1
  rw [show s.dataAddr 0 % 4096 = s.pc.toNat by rw [Machine.State.dataAddr, hi]; omega] at h0
  rw [show s.dataAddr 1 % 4096 = s.pc.toNat + 1 by rw [Machine.State.dataAddr, hi]; omega] at h1
  refine ⟨s.storeBlock (x.toNat + 1), rfl, ?_⟩
  have hpc' : (s.storeBlock (x.toNat + 1)).pc = s.pc := s.onlyChanges_storeBlock _ .pc (by decide)
  rw [Machine.State.fetchWord, hpc', h0, h1]
  rfl

/-- Settles O55: `writeList` puts the image at 0x200 and keeps the canonical form, and an image of 3584 bytes ends at 4096. -/
theorem imageLoadsAtProgramBase : Obligations.ImageLoadsAtProgramBase := fun image => by
  refine ⟨fun hlen => ⟨_, if_pos hlen, fun k h => ?_, fun a ha => ?_, ?_, ?_⟩, fun hlen => if_neg (Nat.not_le.mpr hlen)⟩
  · exact Machine.Memory.read_writeList_inside _ image Config.progBase k h
  · exact Machine.Memory.read_writeList_outside _ image ha
  · exact Machine.Memory.wf_writeList Machine.State.reset_mem_wf _ image (Nat.add_le_add_left hlen Config.progBase)
  · exact Machine.State.reset.onlyChanges_withMem _

/-- Settles O54: the fields of `State.reset`, and memory that lists no cell. -/
theorem resetLeavesTheStatedValues : Obligations.ResetLeavesTheStatedValues :=
  ⟨rfl, rfl, rfl, rfl, Machine.reset_getV, rfl, Machine.reset_stack, Machine.Display.blank_pixel, fun _ _ => rfl,
    fun _ => Machine.resetByte_of_le⟩

/-- Settles O56: reset lists no cell, holds no return address and shows the blank display. -/
theorem resetMeetsTheInvariants : Obligations.ResetMeetsTheInvariants :=
  ⟨Machine.State.reset_mem_wf,
    ⟨by decide, fun _ hpos hle => absurd (Nat.lt_of_lt_of_le hpos hle) (Nat.lt_irrefl 0), rfl⟩, rfl⟩

end Sys2Proof
end

section
/-! One step (40_fetch_decode_execute.md rules R90, R94): what each agent does when it moves next, and what the host, the tick and
the end of a CPU step leave unchanged. -/

namespace Sys2Proof

namespace Machine

/-! ### What each agent does -/

theorem step_poll {s : State} (hs : s.status = .running) (hp : s.phase = .poll) : step s = .next (hostStep s) := by
  simp only [step, hs, hp]

theorem step_tick {s : State} (hs : s.status = .running) (hp : s.phase = .run) (ht : s.ticksDue ≠ 0) :
    step s = .next (tickStep s) := by
  simp only [step, hs, hp, if_neg ht]

theorem step_atEnd {s : State} (hc : s.cpuNext) (he : s.atEnd = true) : step s = .next (s.raise .endOfProgram) := by
  obtain ⟨hs, hp, ht⟩ := hc
  simp only [step, hs, hp, ht, cpuStep, he, if_true]

theorem State.finish_eq_ite (s : State) :
    s.finish = if s.status = .running then { s with shown := s.disp, presents := s.presents + 1, phase := .poll } else s := by
  split
  case isTrue h => exact State.finish_running h
  case isFalse h => exact State.finish_stopped h

theorem tickDown_toNat (b : Byte) : (tickDown b).toNat = b.toNat - 1 := by
  unfold tickDown
  split
  case isTrue h => rw [h]; rfl
  case isFalse h =>
    have hpos : 1 ≤ b.toNat := Nat.pos_of_ne_zero fun h0 => h (BitVec.eq_of_toNat_eq h0)
    exact BitVec.toNat_sub_of_le hpos

/-! ### Frames -/

theorem onlyChanges_hostStep (s : State) : OnlyChanges [.status, .keys, .ticksDue, .phase, .polls] s (hostStep s) := by
  intro p hp
  unfold hostStep
  split <;> cases p with
  | status | keys | ticksDue | phase | polls => exact absurd (by simp) hp
  | v | stack | mem => exact fun _ => rfl
  | disp | shown => exact fun _ _ => rfl
  | _ => exact rfl

theorem onlyChanges_tickStep (s : State) : OnlyChanges [.dt, .ticksDue] s (tickStep s) := by
  intro p hp
  cases p with
  | dt | ticksDue => exact absurd (by simp) hp
  | v | stack | mem => exact fun _ => rfl
  | disp | shown => exact fun _ _ => rfl
  | _ => exact rfl

theorem State.onlyChanges_finish (s : State) : OnlyChanges [.shown, .presents, .phase] s s.finish := by
  rw [s.finish_frame]
  intro p hp
  cases p with
  | shown | presents | phase => exact absurd (by simp) hp
  | v | stack | mem => exact fun _ => rfl
  | disp => exact fun _ _ => rfl
  | _ => exact rfl

end Machine

/-- Settles O7: `step_cpu`, with the end of the CPU step said as a condition on `STATUS`. -/
theorem stepRunsDecodedInstruction : Obligations.StepRunsDecodedInstruction := fun s i hs hp ht hpc hi => by
  obtain ⟨u, hu, -⟩ := Machine.exec_onlyChanges i s.advance
  have hi : decode s.fetchWord = i := hi
  have hexec : Machine.exec i { s with pc := s.pc + 2 } = .next u := hu
  rw [Machine.step_cpu ⟨hs, hp, ht⟩ (s.atEnd_false_iff.mpr hpc), hi, hu, hexec]
  exact congrArg Host.Outcome.next u.finish_eq_ite

/-- Settles O8: the fetch guard is checked before anything else of the CPU step. -/
theorem endOfProgramAtTopOfMemory : Obligations.EndOfProgramAtTopOfMemory := fun s hs hp ht hpc =>
  Machine.step_atEnd ⟨hs, hp, ht⟩ (s.atEnd_iff.mpr hpc)

/-- Settles O9: the first match of `step` is on `STATUS`. -/
theorem stoppedMachineTakesNoStep : Obligations.StoppedMachineTakesNoStep := fun s => by
  refine ⟨fun h => ?_, fun h => ?_, fun h => ?_, fun h => ?_⟩
  all_goals simp only [Machine.step, h]

/-- Settles O10: in the phase `poll` the step is the host's turn. -/
theorem hostPollsBetweenSteps : Obligations.HostPollsBetweenSteps := fun _ hs hp => Machine.step_poll hs hp

/-- Settles O11: in the phase `run` the step is a tick while one is due. -/
theorem tickDecrementsCountdown : Obligations.TickDecrementsCountdown := fun s hs hp ht =>
  ⟨_, Machine.step_tick hs hp ht, Machine.tickDown_toNat s.dt, Nat.succ_pred_eq_of_ne_zero ht, Machine.onlyChanges_tickStep s⟩

/-- Settles O12, by induction on the number of due ticks. -/
theorem ticksSubtractMinimum : Obligations.TicksSubtractMinimum := fun n => by
  induction n with
  | zero => exact fun s _ _ ht => ⟨s, rfl, by simp, ht, .refl _ s⟩
  | succ n ih =>
    intro s hs hp ht
    have htick := Machine.step_tick hs hp (ht ▸ n.succ_ne_zero)
    obtain ⟨t, hrun, hdt, hdue, hframe⟩ := ih (Machine.tickStep s) hs hp (congrArg Nat.pred ht)
    refine ⟨t, (Machine.core_run_succ htick n).trans hrun, ?_, hdue, (Machine.onlyChanges_tickStep s).trans hframe⟩
    have hdown : (Machine.tickStep s).dt.toNat = s.dt.toNat - 1 := Machine.tickDown_toNat s.dt
    rw [hdt, hdown]
    omega

end Sys2Proof
end

section
/-! What holds over any step: which step may change a part, when a run ends, and the invariants that every step keeps. All start
from `step_inversion`. -/

namespace Sys2Proof

namespace Machine

/-- Which agent moved in a step: the host, the tick, or the CPU, which found the top of memory or ran the instruction `i`. -/
theorem step_inversion {s t : State} (h : step s = .next t) :
    (s.phase = .poll ∧ t = hostStep s) ∨ t = tickStep s ∨ (s.cpuNext ∧ s.atEnd = true ∧ t = s.raise .endOfProgram) ∨
      ∃ i u, s.runsNext i ∧ exec i s.advance = .next u ∧ t = u.finish := by
  obtain ⟨-, ⟨hp, ht⟩ | ⟨-, -, ht⟩ | hend | ⟨hc, he, u, hu, ht⟩⟩ := step_cases h
  · exact .inl ⟨hp, ht⟩
  · exact .inr (.inl ht)
  · exact .inr (.inr (.inl hend))
  · exact .inr (.inr (.inr ⟨_, u, ⟨hc, he, rfl⟩, hu, ht⟩))

theorem step_running {s t : State} (h : step s = .next t) : s.status = .running := (step_cases h).1

theorem exec_of_runsNext {s t : State} {i : Instr} (hi : s.runsNext i) (h : step s = .next t) :
    ∃ u, exec i s.advance = .next u ∧ t = u.finish := by
  obtain ⟨hc, he, rfl⟩ := hi
  exact finishOutcome_next ((step_cpu hc he).symm.trans h)

/-- The parts beside the instruction's own that a CPU step changes. -/
def cycleParts : List Part := [.pc, .shown, .presents, .phase]

/-- A CPU step changes the parts of its instruction and those of the cycle. -/
theorem finish_same {s u : State} {i : Instr} (h : exec i s.advance = .next u) {p : Part} (hp : p ∉ mayChange i)
    (hcycle : p ∉ cycleParts) : p.same s u.finish := by
  have hadvance : p.same s s.advance := s.onlyChanges_setPc _ p fun hmem => hcycle (List.mem_singleton.mp hmem ▸ by decide)
  have hfinish : p.same u u.finish := u.onlyChanges_finish p fun hmem => hcycle (List.mem_cons_of_mem _ hmem)
  exact (hadvance.trans (exec_same h hp)).trans hfinish

/-- The parts that only instructions change: not the tick, not the host, not the cycle. -/
def instrParts : List Part := [.v, .i, .stack, .sp, .mem, .disp, .draws]

/-- Such a part is changed by a step that runs an instruction which owns it, and by no other step. -/
theorem step_same_or_runsNext {s t : State} (h : step s = .next t) {p : Part} (hp : p ∈ instrParts) :
    p.same s t ∨ ∃ i, s.runsNext i ∧ p ∈ mayChange i := by
  have hnot : ∀ q ∈ instrParts, q ∉ ([.status, .keys, .ticksDue, .phase, .polls] : List Part) ∧
      q ∉ ([.dt, .ticksDue] : List Part) ∧ q ∉ ([.status] : List Part) ∧ q ∉ cycleParts := by decide
  obtain ⟨hhost, htick, hraise, hcycle⟩ := hnot p hp
  obtain ⟨-, rfl⟩ | rfl | ⟨-, -, rfl⟩ | ⟨i, u, hi, hu, rfl⟩ := step_inversion h
  · exact .inl (onlyChanges_hostStep s p hhost)
  · exact .inl (onlyChanges_tickStep s p htick)
  · exact .inl (s.onlyChanges_raise _ p hraise)
  · by_cases hown : p ∈ mayChange i
    · exact .inr ⟨i, hi, hown⟩
    · exact .inl (finish_same hu hown hcycle)

/-- `pcAfter` reads nothing that the fetch advance changes. -/
theorem pcAfter_advance (pc : Word) (s : State) (i : Instr) : pcAfter pc s.advance i = pcAfter pc s i := by
  cases i <;> rfl

/-- An instruction stops a running machine only by one of the two stack faults. -/
theorem exec_stops {i : Instr} {s u : State} (h : exec i s = .next u) (hs : s.status = .running) (hu : u.status ≠ .running) :
    (i = .ret ∧ s.sp = 0 ∧ u = s.raise .stackUnderflow) ∨
      ((∃ nnn, i = .call nnn) ∧ s.sp = 15 ∧ u = s.raise .stackOverflow) := by
  have hown : .status ∈ mayChange i := by
    by_contra hnot
    have hsame : u.status = s.status := exec_same h hnot
    exact hu (hsame.trans hs)
  rcases ret_or_call_of_mem_mayChange (by decide) hown with rfl | ⟨nnn, rfl⟩
  · obtain ⟨hsp, rfl⟩ | ⟨-, rfl⟩ := exec_ret_cases h
    · exact .inl ⟨rfl, hsp, rfl⟩
    · exact absurd hs hu
  · obtain ⟨hsp, rfl⟩ | ⟨-, rfl⟩ := exec_call_cases h
    · exact .inr ⟨⟨nnn, rfl⟩, hsp, rfl⟩
    · exact absurd hs hu

theorem State.finish_status (s : State) : s.finish.status = s.status := s.onlyChanges_finish .status (by decide)

theorem hostStep_status_ne_running {s : State} (hs : s.status = .running) (h : (hostStep s).status ≠ .running) :
    (hostStep s).status = .quit ∧ Config.hostQuits s.polls = true := by
  unfold hostStep at h ⊢
  split at h
  case isTrue hquit => exact ⟨by rw [if_pos hquit], hquit⟩
  case isFalse => exact absurd hs h

end Machine

/-- Settles O15: memory is a part of `FX33` and `FX55` only. -/
theorem memoryChangesByStoresOnly : Obligations.MemoryChangesByStoresOnly := fun s t h hldB hldMem => by
  obtain hsame | ⟨i, hi, hown⟩ := Machine.step_same_or_runsNext h (p := .mem) (by decide)
  · exact hsame
  · obtain ⟨x, rfl⟩ | ⟨x, rfl⟩ := Machine.mem_mem_mayChange hown
    · exact absurd hi (hldB x)
    · exact absurd hi (hldMem x)

/-- Settles O13: the tick takes `DT` down, `FX15` sets it, and every other step leaves it. -/
theorem timerOnlyFallsBetweenArmings : Obligations.TimerOnlyFallsBetweenArmings := fun s t h => by
  constructor
  · intro hnot
    obtain ⟨-, rfl⟩ | rfl | ⟨-, -, rfl⟩ | ⟨i, u, hi, hu, rfl⟩ := Machine.step_inversion h
    · exact (congrArg BitVec.toNat (Machine.onlyChanges_hostStep s .dt (by decide))).le
    · exact (Machine.tickDown_toNat s.dt).trans_le (Nat.sub_le _ _)
    · exact Nat.le_refl _
    · have hown : .dt ∉ Machine.mayChange i := fun hown => by
        obtain ⟨x, rfl⟩ := Machine.dt_mem_mayChange hown
        exact hnot x hi
      exact (congrArg BitVec.toNat (Machine.finish_same hu hown (by decide))).le
  · intro x hi
    obtain ⟨u, hu, rfl⟩ := Machine.exec_of_runsNext hi h
    cases hu
    exact (s.advance.setDt (s.getV x)).onlyChanges_finish .dt (by decide)

/-- Settles O16: the rest of the CPU step leaves the `PC` that the instruction leaves. -/
theorem pcAdvancesByTwoUnlessOverridden : Obligations.PcAdvancesByTwoUnlessOverridden := fun s t i hi h => by
  obtain ⟨u, hu, rfl⟩ := Machine.exec_of_runsNext hi h
  calc u.finish.pc = u.pc := u.onlyChanges_finish .pc (by decide)
    _ = Machine.pcAfter (s.pc + 2) s.advance i := Machine.exec_pc hu
    _ = Machine.pcAfter (s.pc + 2) s i := Machine.pcAfter_advance _ s i

/-- Settles O14, agent by agent: the tick never stops the machine, and an instruction only by a stack fault. -/
theorem runEndsInFourWaysOnly : Obligations.RunEndsInFourWaysOnly := fun s t h hstop => by
  have hs := Machine.step_running h
  obtain ⟨hp, rfl⟩ | rfl | ⟨hc, he, rfl⟩ | ⟨i, u, hi, hu, rfl⟩ := Machine.step_inversion h
  · obtain ⟨hstatus, hquits⟩ := Machine.hostStep_status_ne_running hs hstop
    exact .inr (.inr (.inr ⟨hstatus, hp, hquits⟩))
  · exact absurd hs hstop
  · exact .inl ⟨rfl, hc, s.atEnd_iff.mp he⟩
  · rw [u.finish_status] at hstop ⊢
    obtain ⟨rfl, hsp, rfl⟩ | ⟨⟨nnn, rfl⟩, hsp, rfl⟩ := Machine.exec_stops hu hs hstop
    · exact .inr (.inl ⟨rfl, hi, hsp⟩)
    · exact .inr (.inr (.inl ⟨rfl, ⟨nnn, hi⟩, hsp⟩))

end Sys2Proof
end

section
/-! The invariants that every step keeps: memory in its canonical form, the bounds of `PC` and of the return addresses, and the
display being the grid shown. -/

namespace Sys2Proof

namespace Machine

/-! ### Memory -/

/-- The canonical form survives every instruction: only stores write memory. -/
theorem exec_memInv {i : Instr} {s t : State} (hs : s.MemInv) (h : exec i s = .next t) : t.MemInv := by
  cases hi : i.recognised
  case false =>
    cases h.symm.trans (exec_of_not_recognised hi s)
    exact hs
  case true =>
  cases i with
  | ldB x =>
    cases h
    exact State.memWrite_wf (State.memWrite_wf (State.memWrite_wf hs _ _) _ _) _ _
  | ldMemVx x =>
    cases h
    exact State.storeBlock_wf hs _
  | ldVxMem x =>
    cases h
    rw [State.MemInv, State.loadBlock_frame]
    exact hs
  | seImm | sneImm | seReg | sneReg | skp | sknp =>
    cases h
    rw [State.MemInv, State.skipIf_mem]
    exact hs
  | ret => obtain ⟨-, rfl⟩ | ⟨-, rfl⟩ := exec_ret_cases h <;> exact hs
  | call nnn => obtain ⟨-, rfl⟩ | ⟨-, rfl⟩ := exec_call_cases h <;> exact hs
  | cls | jp | jpV0 | ldImm | addImm | ldReg | orReg | andReg | xorReg | addReg | sub | shr | subn | shl | ldI | rnd | drw |
    ldVxDt | ldDtVx | ldVxK | ldStVx | addI | ldF =>
    cases h
    exact hs
  | _ => cases hi

/-! ### The host's turn -/

/-- The host's turn leaves the block's registers, stack, memory and display, and the grid shown. -/
theorem hostStep_frame (s : State) :
    hostStep s = { s with
      status := (hostStep s).status, keys := (hostStep s).keys, ticksDue := (hostStep s).ticksDue,
      phase := (hostStep s).phase, polls := (hostStep s).polls } := by
  unfold hostStep
  split <;> rfl

/-! ### PC and the stack -/

/-- The stack part of the control invariant. -/
def State.StackInv (s : State) : Prop :=
  (∀ k : Fin 16, 0 < k.val → k.val ≤ s.sp.val → 0x0002 ≤ s.stack[k].toNat ∧ s.stack[k].toNat ≤ 0x0FFF) ∧
  s.stack[0] = 0

theorem State.StackInv.congr {s t : State} (h : s.StackInv) (hsp : t.sp = s.sp)
    (hstack : ∀ k : Fin 16, t.stack[k] = s.stack[k]) : t.StackInv := by
  obtain ⟨hslots, hzero⟩ := h
  refine ⟨fun k hpos hle => ?_, (hstack 0).trans hzero⟩
  rw [hstack k]
  exact hslots k hpos (hsp ▸ hle)

theorem State.StackInv.pop {s : State} (h : s.StackInv) (hsp : s.sp ≠ 0) : s.pop.StackInv := by
  obtain ⟨hslots, hzero⟩ := h
  have hval : s.pop.sp.val = s.sp.val - 1 := fin_sub_one_val (Fin.pos_iff_ne_zero.mpr hsp)
  exact ⟨fun k hpos hle => hslots k hpos (by omega), hzero⟩

theorem State.StackInv.push {s : State} (h : s.StackInv) (hsp : s.sp ≠ 15) {w : Word} (hlow : 0x0002 ≤ w.toNat)
    (hhigh : w.toNat ≤ 0x0FFF) : (s.push w).StackInv := by
  obtain ⟨hslots, hzero⟩ := h
  have hval : (s.sp + 1).val = s.sp.val + 1 := fin_add_one_val (by omega)
  refine ⟨fun k hpos hle => ?_, ?_⟩
  · rw [s.push_slot]
    split
    case isTrue => exact ⟨hlow, hhigh⟩
    case isFalse hk =>
      have hk : k.val ≠ (s.sp + 1).val := fun e => hk (Fin.ext e)
      have hle : k.val ≤ (s.sp + 1).val := hle
      exact hslots k hpos (by omega)
  · have hne : (0 : Fin 16) ≠ s.sp + 1 := fun e => absurd (congrArg Fin.val e) (by omega)
    exact ((s.push_slot w 0).trans (if_neg hne)).trans hzero

/-- The stack after an instruction: a call pushes the post-fetch `PC`, a return pops, every other instruction leaves it. -/
theorem exec_stackInv {i : Instr} {s u : State} (hs : s.StackInv) (hlow : 0x0002 ≤ s.pc.toNat) (hhigh : s.pc.toNat ≤ 0x0FFF)
    (h : exec i s = .next u) : u.StackInv := by
  by_cases hown : ∃ p ∈ callParts, p ∈ mayChange i
  case pos =>
    obtain ⟨p, hp, hown⟩ := hown
    rcases ret_or_call_of_mem_mayChange hp hown with rfl | ⟨nnn, rfl⟩
    · obtain ⟨-, rfl⟩ | ⟨hsp, rfl⟩ := exec_ret_cases h
      · exact hs
      · exact hs.pop hsp
    · obtain ⟨-, rfl⟩ | ⟨hsp, rfl⟩ := exec_call_cases h
      · exact hs
      · exact hs.push hsp hlow hhigh
  case neg =>
    have hsame : ∀ p ∈ callParts, p.same s u := fun p hp => exec_same h fun hmem => hown ⟨p, hp, hmem⟩
    exact hs.congr (hsame .sp (by decide)) (hsame .stack (by decide))

/-- The largest `PC` after an instruction is the largest target of BNNN, 0xFFF + 0xFF. -/
theorem pcAfter_le {s : State} (hs : s.StackInv) {pc : Word} (hpc : pc.toNat ≤ 0x0FFF) (i : Instr) :
    (pcAfter pc s i).toNat ≤ 0x10FE := by
  have hstay : pc.toNat ≤ 0x10FE := by omega
  have hskip : (pc + 2).toNat ≤ 0x10FE := by
    rw [BitVec.toNat_add]
    exact (Nat.mod_le _ _).trans (Nat.add_le_add_right hpc 2 |>.trans (by decide))
  have htarget (nnn : Addr12) : (addrOf nnn).toNat ≤ 0x10FE := by
    rw [addrOf_toNat]
    omega
  cases i with
  | jp nnn => exact htarget nnn
  | jpV0 nnn =>
    have hsum := addrOf_add_byte_toNat nnn (s.getV 0)
    show (addrOf nnn + (s.getV 0).zeroExtend 16).toNat ≤ 0x10FE
    omega
  | call nnn =>
    rw [pcAfter]
    split
    · exact hstay
    · exact htarget nnn
  | ret =>
    rw [pcAfter]
    split
    case isTrue => exact hstay
    case isFalse hsp =>
      obtain ⟨-, hslot⟩ := hs.1 s.sp (Fin.pos_iff_ne_zero.mpr hsp) (Nat.le_refl _)
      omega
  | seImm | sneImm | seReg | sneReg | skp | sknp =>
    rw [pcAfter]
    split
    all_goals assumption
  | _ => exact hstay

theorem State.advance_pc_toNat {s : State} (h : s.atEnd = false) : s.advance.pc.toNat = s.pc.toNat + 2 := by
  have hpc := s.atEnd_false_iff.mp h
  rw [State.advance_pc, BitVec.toNat_add]
  exact Nat.mod_eq_of_lt (by show s.pc.toNat + 2 < 65536; omega)

end Machine

/-- Settles O57: neither the host nor the tick writes memory, and every instruction keeps the form. -/
theorem stepKeepsMemoryCanonical : Obligations.StepKeepsMemoryCanonical := fun s t hs h => by
  obtain ⟨-, rfl⟩ | rfl | ⟨-, -, rfl⟩ | ⟨i, u, -, hu, rfl⟩ := Machine.step_inversion h
  · rw [Machine.State.MemInv, Machine.hostStep_frame]
    exact hs
  · exact hs
  · exact hs
  · have hu : u.MemInv := Machine.exec_memInv (s := s.advance) hs hu
    rw [Machine.State.MemInv, Machine.State.finish_frame]
    exact hu

/-- Settles O58: below the fetch limit the post-fetch `PC` is in 0x0002..0x0FFF, so that a call may push it. -/
theorem stepKeepsPcAndStackInRange : Obligations.StepKeepsPcAndStackInRange := fun s t hs h => by
  obtain ⟨-, rfl⟩ | rfl | ⟨-, -, rfl⟩ | ⟨i, u, ⟨-, he, -⟩, hu, rfl⟩ := Machine.step_inversion h
  · rw [Machine.hostStep_frame]
    exact hs
  · exact hs
  · exact hs
  · have hlimit := s.atEnd_false_iff.mp he
    have hpc := Machine.State.advance_pc_toNat he
    have hstack : s.advance.StackInv := hs.2
    have hu_pc : u.pc.toNat ≤ 0x10FE := by
      rw [Machine.exec_pc hu]
      exact Machine.pcAfter_le hstack (by omega) i
    have hu_stack : u.StackInv := Machine.exec_stackInv hstack (by omega) (by omega) hu
    rw [Machine.State.finish_frame]
    exact ⟨hu_pc, hu_stack⟩

/-- Settles O59: a CPU step ends with a presentation, unless it raised, and then the display is as before it. -/
theorem stepKeepsGridPresented : Obligations.StepKeepsGridPresented := fun s t hs h => by
  have hrunning := Machine.step_running h
  obtain ⟨-, rfl⟩ | rfl | ⟨-, -, rfl⟩ | ⟨i, u, -, hu, rfl⟩ := Machine.step_inversion h
  · rw [Machine.hostStep_frame]
    exact hs
  · exact hs
  · exact hs
  · by_cases hu' : u.status = .running
    · rw [Machine.State.finish_running hu']
      rfl
    · rw [Machine.State.finish_stopped hu']
      obtain ⟨-, -, rfl⟩ | ⟨-, -, rfl⟩ := Machine.exec_stops hu hrunning hu' <;> exact hs

end Sys2Proof
end

section
/-! Noninterference (44_display.md rule R153 d): every operation but the two display instructions commutes with replacing the
display and the grid shown, and those two replace both. -/

namespace Sys2Proof

namespace Machine

theorem State.skipIf_withDisplay (s : State) (d e : Display) (c : Bool) :
    (s.withDisplay d e).skipIf c = (s.skipIf c).withDisplay d e := by
  cases c <;> rfl

theorem State.storeBlock_withDisplay (s : State) (d e : Display) (n : Nat) :
    (s.withDisplay d e).storeBlock n = (s.storeBlock n).withDisplay d e := by
  induction n with
  | zero => rfl
  | succ n ih =>
    rw [State.storeBlock, ih]
    rfl

theorem State.loadBlock_withDisplay (s : State) (d e : Display) (n : Nat) :
    (s.withDisplay d e).loadBlock n = (s.loadBlock n).withDisplay d e := by
  induction n with
  | zero => rfl
  | succ n ih =>
    rw [State.loadBlock, ih]
    rfl

theorem hostStep_withDisplay (s : State) (d e : Display) : hostStep (s.withDisplay d e) = (hostStep s).withDisplay d e := by
  cases hquits : Config.hostQuits s.polls <;> simp [hostStep, State.withDisplay, hquits]

/-- The end of a CPU step presents the display it is given. -/
theorem State.finish_withDisplay (s : State) (d e : Display) :
    ∃ d' e', (s.withDisplay d e).finish = s.finish.withDisplay d' e' := by
  by_cases hs : s.status = .running
  · have hs' : (s.withDisplay d e).status = .running := hs
    exact ⟨d, d, by rw [State.finish_running hs, State.finish_running hs']; rfl⟩
  · have hs' : (s.withDisplay d e).status ≠ .running := hs
    exact ⟨d, e, by rw [State.finish_stopped hs, State.finish_stopped hs']⟩

/-- Every instruction answers states that differ in the display and the grid shown only. -/
theorem exec_withDisplay (i : Instr) (s : State) (d e : Display) :
    ∃ t d' e', exec i s = .next t ∧ exec i (s.withDisplay d e) = .next (t.withDisplay d' e') := by
  cases hi : i.recognised
  case false => exact ⟨s, d, e, exec_of_not_recognised hi s, exec_of_not_recognised hi _⟩
  case true =>
  cases i with
  | cls | drw => exact ⟨_, _, _, rfl, rfl⟩
  | ret =>
    by_cases hsp : s.sp = 0
    · exact ⟨_, d, e, execRet_of_sp_eq_zero hsp, execRet_of_sp_eq_zero (s := s.withDisplay d e) hsp⟩
    · exact ⟨_, d, e, execRet_of_sp_ne_zero hsp, execRet_of_sp_ne_zero (s := s.withDisplay d e) hsp⟩
  | call nnn =>
    by_cases hsp : s.sp = 15
    · exact ⟨_, d, e, execCall_of_sp_eq_fifteen nnn hsp, execCall_of_sp_eq_fifteen nnn (s := s.withDisplay d e) hsp⟩
    · exact ⟨_, d, e, execCall_of_sp_ne_fifteen nnn hsp, execCall_of_sp_ne_fifteen nnn (s := s.withDisplay d e) hsp⟩
  | seImm | sneImm | seReg | sneReg | skp | sknp =>
    exact ⟨_, d, e, rfl, congrArg Host.Outcome.next (s.skipIf_withDisplay d e _)⟩
  | ldMemVx x => exact ⟨_, d, e, rfl, congrArg Host.Outcome.next (s.storeBlock_withDisplay d e _)⟩
  | ldVxMem x => exact ⟨_, d, e, rfl, congrArg Host.Outcome.next (s.loadBlock_withDisplay d e _)⟩
  | jp | jpV0 | ldImm | addImm | ldReg | orReg | andReg | xorReg | addReg | sub | shr | subn | shl | ldI | rnd | ldVxDt |
    ldDtVx | ldVxK | ldStVx | addI | ldF | ldB => exact ⟨_, d, e, rfl, rfl⟩
  | _ => cases hi

theorem cpuStep_withDisplay (s : State) (d e : Display) : AgreeButDisplay (cpuStep s) (cpuStep (s.withDisplay d e)) := by
  cases he : s.atEnd
  case true =>
    have he' : (s.withDisplay d e).atEnd = true := he
    rw [cpuStep, cpuStep, if_pos he, if_pos he']
    exact ⟨d, e, rfl⟩
  case false =>
    have he' : (s.withDisplay d e).atEnd = false := he
    obtain ⟨t, d', e', ht, ht'⟩ := exec_withDisplay (decode s.fetchWord) s.advance d e
    have hexec : exec (decode (s.withDisplay d e).fetchWord) (s.withDisplay d e).advance = .next (t.withDisplay d' e') := ht'
    rw [cpuStep, cpuStep, if_neg (ne_true_of_eq_false he), if_neg (ne_true_of_eq_false he'), ht, hexec]
    exact t.finish_withDisplay d' e'

theorem step_eq_cpuStep {s : State} (hs : s.cpuNext) : step s = cpuStep s := by
  obtain ⟨hs, hp, ht⟩ := hs
  simp only [step, hs, hp, ht, if_true]

/-- Which fault a stopped machine answers depends on `STATUS` alone. -/
theorem step_stopped {s : State} (hs : s.status ≠ .running) :
    ∃ f, ∀ u : State, u.status = s.status → step u = .fault f := by
  match hstatus : s.status with
  | .running => exact absurd hstatus hs
  | .ended => exact ⟨.ended, fun u hu => by simp only [step, hu]⟩
  | .faulted .stackUnderflow => exact ⟨.stackUnderflow, fun u hu => by simp only [step, hu]⟩
  | .faulted .stackOverflow => exact ⟨.stackOverflow, fun u hu => by simp only [step, hu]⟩
  | .quit => exact ⟨.quit, fun u hu => by simp only [step, hu]⟩

end Machine

/-- Settles O46: which agent moves is read from `STATUS`, the phase and the ticks due, and each agent commutes with the
replacement. -/
theorem displayIsNeverRead : Obligations.DisplayIsNeverRead := fun s d e => by
  by_cases hs : s.status = .running
  case neg =>
    obtain ⟨f, hf⟩ := Machine.step_stopped hs
    rw [hf s rfl, hf (s.withDisplay d e) rfl]
    rfl
  case pos =>
  cases hp : s.phase with
  | poll =>
    rw [Machine.step_poll hs hp, Machine.step_poll (s := s.withDisplay d e) hs hp, Machine.hostStep_withDisplay]
    exact ⟨d, e, rfl⟩
  | run =>
    by_cases ht : s.ticksDue = 0
    · rw [Machine.step_eq_cpuStep ⟨hs, hp, ht⟩, Machine.step_eq_cpuStep (s := s.withDisplay d e) ⟨hs, hp, ht⟩]
      exact Machine.cpuStep_withDisplay s d e
    · rw [Machine.step_tick hs hp ht, Machine.step_tick (s := s.withDisplay d e) hs hp ht]
      exact ⟨d, e, rfl⟩

end Sys2Proof
end
